-- ==== Sys2Proof/Word.lean ====
section
/-!
DEFINITION. Bytes, CAN identifiers and fixed-size tables.

A table of the part (32 watch entries, 64 signals, …) is a `Table α n`; it is read with `Table.at`,
changed at one index with `Table.put` and built whole with `Table.build`.
-/

namespace Sys2Proof

/-- One payload, image or store byte (section 0.8). -/
abbrev Byte := BitVec 8

/-- A standard identifier, 0x000..0x7FF (section 0.8, Frames). -/
abbrev CanId := BitVec 11

/-- A fixed number of like things, indexed from 0 (section 0.8, Indices). -/
abbrev Table (α : Type) (n : Nat) := Vector α n

/-- The table whose entry at `i` is `f i`. -/
def Table.build {α : Type} {n : Nat} (f : Fin n → α) : Table α n :=
  ⟨⟨(List.finRange n).map f⟩, by simp⟩

/-- The entry at an index. -/
def Table.at {α : Type} {n : Nat} (t : Table α n) (i : Fin n) : α := t[i]

/-- The table with one entry replaced. -/
def Table.put {α : Type} {n : Nat} (t : Table α n) (i : Fin n) (x : α) : Table α n := t.set i x

/-- The table that holds `x` everywhere. -/
def Table.fill {α : Type} (n : Nat) (x : α) : Table α n := Table.build fun _ => x

@[simp] theorem Table.at_build {α : Type} {n : Nat} (f : Fin n → α) (i : Fin n) :
    (Table.build f).at i = f i := by
  simp [Table.at, Table.build]

@[simp] theorem Table.at_fill {α : Type} {n : Nat} (x : α) (i : Fin n) :
    (Table.fill n x).at i = x := by
  simp [Table.fill]

theorem Table.at_put {α : Type} {n : Nat} (t : Table α n) (i j : Fin n) (x : α) :
    (t.put i x).at j = if i = j then x else t.at j := by
  simp [Table.at, Table.put, Vector.getElem_set, Fin.ext_iff]

@[simp] theorem Table.at_put_self {α : Type} {n : Nat} (t : Table α n) (i : Fin n) (x : α) :
    (t.put i x).at i = x := by
  simp [Table.at_put]

theorem Table.at_put_ne {α : Type} {n : Nat} (t : Table α n) {i j : Fin n} (x : α) (h : i ≠ j) :
    (t.put i x).at j = t.at j := by
  simp [Table.at_put, h]

theorem Table.ext_at {α : Type} {n : Nat} {t u : Table α n} (h : ∀ i, t.at i = u.at i) : t = u := by
  apply Vector.ext
  intro i hi
  simpa [Table.at] using h ⟨i, hi⟩

end Sys2Proof
end

