-- ==== Sys2Proof/Syntax.lean ====
section
/-!
DEFINITION. The commands of the part: one constructor per row of spec/opcode_table.json.

A command is an event of the outside (a frame, a bus error, a pin change, the end of a transmission or
of a store operation), the expiry of one of the part's timers, or the arrival of a request frame.
The table gives its rows no operands; each constructor carries what the row's rule says the event
brings with it.
-/

namespace Sys2Proof

/-- The level of the IGN input or of its filter (R69). -/
inductive Level where
  | low
  | high
  deriving DecidableEq, Repr

/-- The blanking classes that have a condition and a tail (R84). -/
inductive TailClass where
  | crank
  | lowSupply
  | absActive
  | portDown
  deriving DecidableEq, Repr

/-- The two lamps (chapter 8). -/
inductive Lamp where
  | engine
  | abs
  deriving DecidableEq, Repr

/-- The commands. A request command carries the bytes that follow the request code in the frame. -/
inductive Instr where
  /-- R2: a standard data frame received without error on the chassis segment. -/
  | errorFreeFrame (id : CanId) (payload : List Byte)
  /-- R3: an error that discards a chassis frame. -/
  | busError
  /-- R5: the silence timer reaches 0. -/
  | silenceTimerExpiry
  /-- R27: a RETRIGGER or WINDOW monitor expires. -/
  | monitorExpiry (entry : Fin 32)
  /-- R30: a PERIOD monitor expires. -/
  | periodExpiry (entry : Fin 32)
  /-- R60: a vote rule's period timer expires. -/
  | voteExpiry (rule : Fin 4)
  /-- R69: the raw IGN level is `level`; where the filter's count has reached 20 the filtered level takes it. -/
  | ignFilterChange (level : Level)
  /-- R80: a VSENSE sample, in millivolts, brings the supply band up to date. -/
  | supplyBandChange (sample : Nat)
  /-- R82: the supply falls below 4.5 V. -/
  | powerOnReset
  /-- R186: the load of both regions completes. -/
  | loadCompletion
  /-- R189: the MEMORY write completes. -/
  | memoryWriteCompletion
  /-- R181: the TABLES write of a commit completes. -/
  | tablesWriteCompletion
  /-- R182: the reload of an abandon completes. -/
  | reloadCompletion
  /-- R84: the tail timer of a class expires. -/
  | tailTimerExpiry (cls : TailClass)
  /-- R85: the IGNITION timer expires. -/
  | ignitionTimerExpiry
  /-- R142: the prove-out timer expires. -/
  | proveOutTimerExpiry
  /-- R145: a lamp's stretch timer expires. -/
  | stretchTimerExpiry (lamp : Lamp)
  /-- R146: a lamp's flash half-cycle expires. -/
  | flashPhaseExpiry (lamp : Lamp)
  /-- R151: the attempt in progress succeeds. -/
  | attemptSuccess
  /-- R152: the attempt in progress fails. -/
  | attemptFailure
  /-- R151: another node's frame takes the bus. -/
  | lostArbitration
  /-- R153: the OFFLINE timer expires. -/
  | offlineTimerExpiry
  /-- R162: the beacon timer expires. -/
  | beaconTimerExpiry
  /-- R168: a request frame arrives where R168 discards it. -/
  | requestDiscarded (payload : List Byte)
  /-- R169: a request frame arrives whose code names no request, or of length 0. -/
  | unknown (payload : List Byte)
  /-- R174. -/
  | status (args : List Byte)
  /-- R110. -/
  | readFault (args : List Byte)
  /-- R52. -/
  | readSignal (args : List Byte)
  /-- R34. -/
  | peekMonitor (args : List Byte)
  /-- R135. -/
  | fetchRecord (args : List Byte)
  /-- R171. -/
  | readBuffer (args : List Byte)
  /-- R171. -/
  | writeBuffer (args : List Byte)
  /-- R130. -/
  | clearRecords (args : List Byte)
  /-- R172. -/
  | setNoticeMask (args : List Byte)
  /-- R173. -/
  | enterConfigure (args : List Byte)
  /-- R180: LEAVE CONFIGURE with its commit flag set. -/
  | leaveConfigureCommit (args : List Byte)
  /-- R182: LEAVE CONFIGURE with its commit flag clear. -/
  | leaveConfigureAbandon (args : List Byte)
  /-- R175. -/
  | storeEntry (args : List Byte)
  /-- R178. -/
  | fetchEntry (args : List Byte)
  /-- R179. -/
  | eraseEntry (args : List Byte)
  /-- R82: the supply exceeds 5.0 V; the straps read ID0 and ID1. -/
  | leavePowerOnReset (id0 id1 : Bool)
  deriving DecidableEq, Repr

end Sys2Proof
end

