-- ==== Sys2Proof/Decode.lean ====
section
/-!
DEFINITION. The command that a word of spec/opcode_table.json spells.

No row of the table is given any bits (spec/98_reader.md: 41 rows, none with fixed bits or fields), so
no word spells a command.
-/

namespace Sys2Proof

/-- The command spelled by the table's bits: none, for every row is without bits. -/
def decodeTableWord (_nbits _w : Nat) : Option Instr := none

end Sys2Proof
end

