-- ==== Sys2Proof/Machine/Types.lean ====
section
/-!
DEFINITION. The named values, table entries and block states of the part, with the codes of section 12.1.
-/

namespace Sys2Proof.Machine

/-! ### Named values -/

/-- The ride states (R68). -/
inductive RideState where
  | asleep | settling | keyOn | cranking | running | configure | closing
  deriving DecidableEq, Repr

/-- The supply bands (R80). -/
inductive Band where
  | normal | low | deep
  deriving DecidableEq, Repr

/-- The Chassis Port's condition (R4). -/
inductive PortCondition where
  | live | down
  deriving DecidableEq, Repr

/-- A watch entry's freshness (R18). -/
inductive Freshness where
  | never | fresh | stale
  deriving DecidableEq, Repr

/-- The deadline monitor's modes (section 2.2). -/
inductive MonitorMode where
  | retrigger | window | period
  deriving DecidableEq, Repr

/-- The gates of monitors and vote rules (R21). -/
inductive Gate where
  | awake | running | notCranking
  deriving DecidableEq, Repr

/-- The forward policies (R19). -/
inductive ForwardPolicy where
  | none | pass | drop | hold
  deriving DecidableEq, Repr

/-- The signedness of a signal field (R39). -/
inductive Signedness where
  | unsigned | signed
  deriving DecidableEq, Repr

/-- The roles a signal may hold (R49). -/
inductive Role where
  | none | engineState | vehicleSpeed | absRegulating | absReady
  deriving DecidableEq, Repr

/-- The fault groups (R93). -/
inductive Group where
  | engine | brake | network | monitor
  deriving DecidableEq, Repr

/-- The lamp a fault names (R93). -/
inductive LampField where
  | none | engineSteady | engineFlash | abs
  deriving DecidableEq, Repr

/-- A lamp's request or displayed pattern (chapter 8). -/
inductive Pattern where
  | off | steady | flash
  deriving DecidableEq, Repr

/-- A fault's verdict (R97). -/
inductive Verdict where
  | untested | undecided | failing | passing
  deriving DecidableEq, Repr

/-- A record's status (R114). -/
inductive RecordStatus where
  | pending | confirmed | healed
  deriving DecidableEq, Repr

/-- The results of a request (R169). -/
inductive Result where
  | ok | refused | badArgument | badEntry | unknown | empty
  deriving DecidableEq, Repr

/-- The tables a request may name (R170). -/
inductive TableName where
  | watch | signal | vote | fault | settings
  deriving DecidableEq, Repr

/-- The BAD_ENTRY reasons (R176). -/
inductive Reason where
  | range | layout | partIdentifier | duplicate | reference | fieldPosition | signalCount | aging
  | roleMissing
  deriving DecidableEq, Repr

/-- The sample kinds of a watch entry (R94). -/
inductive FrameKind where
  | missing | early | length | alive | restart | checksum
  deriving DecidableEq, Repr

/-- The sample kinds of a signal (R94). -/
inductive SignalKind where
  | range | step | frozen
  deriving DecidableEq, Repr

/-- The sample kinds of a vote rule (R94). -/
inductive VoteKind where
  | a | b | c | split
  deriving DecidableEq, Repr

/-- The two ports (R94): chassis is index 0, cluster index 1. -/
inductive Port where
  | chassis | cluster
  deriving DecidableEq, Repr

/-- A sample's source: a kind and, but for STORE_LOST, an index in the kind's range (R94). -/
inductive Source where
  | frame (kind : FrameKind) (entry : Fin 32)
  | signal (kind : SignalKind) (index : Fin 64)
  | vote (kind : VoteKind) (rule : Fin 4)
  | portDown (port : Port)
  | storeLost
  deriving DecidableEq, Repr

/-- A sample's finding. -/
inductive Finding where
  | pass | fail
  deriving DecidableEq, Repr

/-! ### Table entries -/

/-- The alive field: a payload byte and a nibble (R8). -/
structure AliveField where
  byte : Fin 8
  high : Bool
  deriving DecidableEq, Repr

/-- The checksum byte with its seed (R8). -/
structure ChecksumByte where
  byte : Fin 8
  seed : Byte
  deriving DecidableEq, Repr

/-- A non-empty watch entry (R8). -/
structure WatchEntry where
  identifier : CanId
  expectedLength : Nat
  mode : MonitorMode
  deadline : Nat
  minimumInterval : Nat
  burstLimit : Nat
  startAllowance : Nat
  gate : Gate
  alive : Option AliveField
  checksum : Option ChecksumByte
  policy : ForwardPolicy
  staleMarker : Option (Fin 8)
  deriving DecidableEq, Repr

/-- A non-empty signal entry (R36). -/
structure SignalEntry where
  watch : Fin 32
  startBit : Nat
  length : Nat
  signedness : Signedness
  gain : Int
  shift : Nat
  offset : Int
  rangeLow : Int
  rangeHigh : Int
  stepLimit : Nat
  frozenLimit : Nat
  role : Role
  deriving DecidableEq, Repr

/-- A non-empty vote rule (R55). -/
structure VoteRule where
  memberA : Fin 64
  memberB : Fin 64
  memberC : Option (Fin 64)
  absoluteTolerance : Nat
  relativeTolerance : Nat
  floor : Nat
  period : Nat
  gate : Gate
  deriving DecidableEq, Repr

/-- A subset of the blanking classes (R93). -/
structure BlankingMask where
  ignition : Bool
  crank : Bool
  lowSupply : Bool
  absActive : Bool
  portDown : Bool
  deriving DecidableEq, Repr

/-- A subset of the groups (section 12.1, group mask). -/
structure GroupMask where
  engine : Bool
  brake : Bool
  network : Bool
  monitor : Bool
  deriving DecidableEq, Repr

/-- A non-empty fault definition (R93). -/
structure FaultDef where
  source : Source
  group : Group
  level : Nat
  stepUp : Nat
  stepDown : Nat
  confirm : Nat
  heal : Int
  jumpUp : Bool
  jumpDown : Bool
  twoRide : Bool
  immediateLamp : Bool
  lamp : LampField
  lampOffRides : Nat
  agingRides : Nat
  mask : BlankingMask
  capture : List (Fin 64)
  deriving DecidableEq, Repr

/-- The thirteen settings (R177). Times are in ms, the qualify run time in seconds. -/
structure Settings where
  ignitionBlanking : Nat
  crankTail : Nat
  supplyTail : Nat
  absTail : Nat
  portTail : Nat
  silenceTime : Nat
  qualifyRun : Nat
  qualifySpeed : Int
  proveOutTime : Nat
  lampStretch : Nat
  beaconPeriod : Nat
  noticeLevel : Nat
  noticeEnables : GroupMask
  deriving DecidableEq, Repr

/-- The five tables (R184). Fault number n is at index n - 1 of `faults`. -/
structure Tables where
  watch : Table (Option WatchEntry) 32
  signals : Table (Option SignalEntry) 64
  votes : Table (Option VoteRule) 4
  faults : Table (Option FaultDef) 64
  settings : Settings
  deriving DecidableEq, Repr

/-! ### Block states. A timer is `none` while IDLE and `some` of its remaining time while RUNNING. -/

/-- A CAN data frame (section 0.8). -/
structure Frame where
  id : CanId
  bytes : List Byte
  deriving DecidableEq, Repr

/-- The input pins (section 0.7); VSENSE in millivolts. -/
structure Pins where
  ign : Level
  vsense : Nat
  id0 : Bool
  id1 : Bool
  deriving DecidableEq, Repr

/-- The Chassis Port (section 1.1). -/
structure ChassisPort where
  errorCount : Nat
  condition : PortCondition
  silence : Option Nat
  deriving DecidableEq, Repr

/-- A watch entry's runtime (R10). -/
structure WatchRuntime where
  freshness : Freshness
  lastGood : Option (List Byte)
  previousAlive : Option (BitVec 4)
  deriving DecidableEq, Repr

/-- A deadline monitor (R20). `previous` is the time since the last arrival taken. -/
structure Monitor where
  running : Bool
  remaining : Nat
  arrivals : Nat
  previous : Option Nat
  deriving DecidableEq, Repr

/-- A signal's runtime (R38). -/
structure SignalRuntime where
  value : Option Int
  previous : Option Int
  frozenRun : Nat
  deriving DecidableEq, Repr

/-- A blanking class: its active state and its tail timer; for IGNITION, its own timer (R84, R85). -/
structure BlankingClass where
  active : Bool
  timer : Option Nat
  deriving DecidableEq, Repr

/-- The five blanking classes (R84). -/
structure Classes where
  ignition : BlankingClass
  crank : BlankingClass
  lowSupply : BlankingClass
  absActive : BlankingClass
  portDown : BlankingClass
  deriving DecidableEq, Repr

/-- The Ride Controller (chapter 5). `ign` is the filtered level. -/
structure RideController where
  state : RideState
  band : Band
  ign : Level
  ignCount : Nat
  rideNumber : Nat
  clockTicks : Nat
  runTime : Nat
  speedReached : Bool
  hold : Bool
  classes : Classes
  deriving DecidableEq, Repr

/-- A fault's runtime (R97). -/
structure FaultRuntime where
  counter : Int
  verdict : Verdict
  failed : Bool
  deriving DecidableEq, Repr

/-- One captured signal (R114). -/
structure CaptureItem where
  signal : Fin 64
  value : Int
  valid : Bool
  deriving DecidableEq, Repr

/-- A fault record (R114). `fault` is the fault number less one. -/
structure FaultRecord where
  fault : Fin 64
  status : RecordStatus
  occurrences : Nat
  firstRide : Nat
  lastRide : Nat
  goodRides : Nat
  rideState : RideState
  band : Band
  clock : Nat
  signals : List CaptureItem
  deriving DecidableEq, Repr

/-- The Fault Memory (R115, R116): records in creation order, MEMORY_FULL, dirty. -/
structure FaultMemory where
  records : List FaultRecord
  full : Bool
  dirty : Bool
  deriving DecidableEq, Repr

/-- The half-cycle of a FLASH pattern (R146). -/
structure FlashPhase where
  on : Bool
  remaining : Nat
  deriving DecidableEq, Repr

/-- One lamp (R138). `stretched` is the stretched pattern, `proveOut` is true while ACTIVE. -/
structure LampState where
  request : Pattern
  stretch : Option Nat
  stretched : Option Pattern
  proveOut : Bool
  displayed : Pattern
  phase : Option FlashPhase
  deriving DecidableEq, Repr

/-- The Lamp Driver (R138). -/
structure LampDriver where
  engine : LampState
  abs : LampState
  proveTimer : Option Nat
  deriving DecidableEq, Repr

/-- A response as the Management Engine formed it; its summary byte is read at each attempt (R150). -/
structure Response where
  code : Byte
  result : Result
  data : List Byte
  deriving DecidableEq, Repr

/-- The item an attempt was taken from. `gone` is an item that has been replaced, discarded, emptied or
cleared during the attempt, which the attempt's success completes no more (R151, R154, R156, R166). -/
inductive Item where
  | response
  | notice (fault : Fin 64)
  | slot (entry : Fin 32)
  | queueHead
  | beacon
  | gone
  deriving DecidableEq, Repr

/-- The attempt in progress (section 9.1). -/
structure Attempt where
  frame : Frame
  item : Item
  resend : Bool
  deriving DecidableEq, Repr

/-- The Cluster Transmitter (section 9.1). `offline` is none while ACTIVE, else the OFFLINE timer.
`beaconPeriod` is the period taken at ride start (R162). -/
structure Transmitter where
  response : Option Response
  notices : Table Bool 64
  slots : Table (Option Frame) 32
  queue : List Frame
  beaconDue : Bool
  beaconTimer : Option Nat
  beaconPeriod : Nat
  noticeLevel : Nat
  enables : GroupMask
  attempt : Option Attempt
  errorCount : Nat
  offline : Option Nat
  deriving DecidableEq, Repr

/-- The work of a LEAVE CONFIGURE: a commit, with the records its cleanup removed, or an abandon. -/
inductive Work where
  | commit (removed : Nat)
  | abandon
  deriving DecidableEq, Repr

/-- The inbox (R167). -/
inductive Inbox where
  | empty
  | working (work : Work)
  | answered
  deriving DecidableEq, Repr

/-- The Management Engine (R167). The buffer's 32 bytes are cells; an unlisted position reads 0. -/
structure ManagementEngine where
  inbox : Inbox
  buffer : List Host.Cell
  unconfigured : Bool
  deriving DecidableEq, Repr

/-- The store operations that take time (R186, R189, R190). -/
inductive StoreWork where
  | load | memoryWrite | tablesWrite | reload
  deriving DecidableEq, Repr

/-- A store operation in progress and the ticks it has lasted. -/
structure StoreOp where
  work : StoreWork
  ticks : Nat
  deriving DecidableEq, Repr

/-- The Persistent Store (R184): its two regions as cells, an unlisted byte reading 0xFF, the
operation in progress, and the STORE_LOST flag (R191). -/
structure PersistentStore where
  tables : List Host.Cell
  memory : List Host.Cell
  op : Option StoreOp
  storeLost : Bool
  deriving DecidableEq, Repr

/-! ### Codes of section 12.1 -/

def Result.code : Result → Nat
  | .ok => 0 | .refused => 1 | .badArgument => 2 | .badEntry => 3 | .unknown => 4 | .empty => 5

def TableName.code : TableName → Nat
  | .watch => 0 | .signal => 1 | .vote => 2 | .fault => 3 | .settings => 4

def TableName.ofCode : Nat → Option TableName
  | 0 => some .watch | 1 => some .signal | 2 => some .vote | 3 => some .fault | 4 => some .settings
  | _ => none

def Reason.code : Reason → Nat
  | .range => 1 | .layout => 2 | .partIdentifier => 3 | .duplicate => 4 | .reference => 5
  | .fieldPosition => 6 | .signalCount => 7 | .aging => 8 | .roleMissing => 9

def RideState.code : RideState → Nat
  | .asleep => 0 | .settling => 1 | .keyOn => 2 | .cranking => 3 | .running => 4 | .configure => 5
  | .closing => 6

def RideState.ofCode : Nat → Option RideState
  | 0 => some .asleep | 1 => some .settling | 2 => some .keyOn | 3 => some .cranking
  | 4 => some .running | 5 => some .configure | 6 => some .closing | _ => none

def Band.code : Band → Nat
  | .normal => 0 | .low => 1 | .deep => 2

def Band.ofCode : Nat → Option Band
  | 0 => some .normal | 1 => some .low | 2 => some .deep | _ => none

def Verdict.code : Verdict → Nat
  | .untested => 0 | .undecided => 1 | .failing => 2 | .passing => 3

def RecordStatus.code : RecordStatus → Nat
  | .pending => 1 | .confirmed => 2 | .healed => 3

def RecordStatus.ofCode : Nat → Option RecordStatus
  | 1 => some .pending | 2 => some .confirmed | 3 => some .healed | _ => none

def Freshness.code : Freshness → Nat
  | .never => 0 | .fresh => 1 | .stale => 2

def MonitorMode.code : MonitorMode → Nat
  | .retrigger => 0 | .window => 1 | .period => 2

def MonitorMode.ofCode : Nat → Option MonitorMode
  | 0 => some .retrigger | 1 => some .window | 2 => some .period | _ => none

def Gate.code : Gate → Nat
  | .awake => 0 | .running => 1 | .notCranking => 2

def Gate.ofCode : Nat → Option Gate
  | 0 => some .awake | 1 => some .running | 2 => some .notCranking | _ => none

def ForwardPolicy.code : ForwardPolicy → Nat
  | .none => 0 | .pass => 1 | .drop => 2 | .hold => 3

def ForwardPolicy.ofCode : Nat → Option ForwardPolicy
  | 0 => some .none | 1 => some .pass | 2 => some .drop | 3 => some .hold | _ => Option.none

def Signedness.code : Signedness → Nat
  | .unsigned => 0 | .signed => 1

def Signedness.ofCode : Nat → Option Signedness
  | 0 => some .unsigned | 1 => some .signed | _ => none

def Role.code : Role → Nat
  | .none => 0 | .engineState => 1 | .vehicleSpeed => 2 | .absRegulating => 3 | .absReady => 4

def Role.ofCode : Nat → Option Role
  | 0 => some .none | 1 => some .engineState | 2 => some .vehicleSpeed | 3 => some .absRegulating
  | 4 => some .absReady | _ => Option.none

def Group.code : Group → Nat
  | .engine => 0 | .brake => 1 | .network => 2 | .monitor => 3

def Group.ofCode : Nat → Option Group
  | 0 => some .engine | 1 => some .brake | 2 => some .network | 3 => some .monitor | _ => none

def LampField.code : LampField → Nat
  | .none => 0 | .engineSteady => 1 | .engineFlash => 2 | .abs => 3

def LampField.ofCode : Nat → Option LampField
  | 0 => some .none | 1 => some .engineSteady | 2 => some .engineFlash | 3 => some .abs
  | _ => Option.none

def Pattern.code : Pattern → Nat
  | .off => 0 | .steady => 1 | .flash => 2

/-- The index of type `Fin n` that a byte carries, if it lies in the range. -/
def indexOf (n : Nat) (b : Nat) : Option (Fin n) := if h : b < n then some ⟨b, h⟩ else none

/-- The source kind's code (section 12.1). -/
def Source.kindCode : Source → Nat
  | .frame .missing _ => 0 | .frame .early _ => 1 | .frame .length _ => 2 | .frame .alive _ => 3
  | .frame .restart _ => 4 | .frame .checksum _ => 5
  | .signal .range _ => 6 | .signal .step _ => 7 | .signal .frozen _ => 8
  | .vote .a _ => 9 | .vote .b _ => 10 | .vote .c _ => 11 | .vote .split _ => 12
  | .portDown _ => 13 | .storeLost => 14

/-- The source index (R94); the ignored index byte of STORE_LOST is 0 (R194). -/
def Source.indexCode : Source → Nat
  | .frame _ i => i.val | .signal _ i => i.val | .vote _ i => i.val
  | .portDown .chassis => 0 | .portDown .cluster => 1 | .storeLost => 0

/-- The source a kind code and an index name, if the index lies in the kind's range (R94). -/
def Source.ofCodes (kind index : Nat) : Option Source :=
  match kind with
  | 0 => (indexOf 32 index).map (.frame .missing) | 1 => (indexOf 32 index).map (.frame .early)
  | 2 => (indexOf 32 index).map (.frame .length) | 3 => (indexOf 32 index).map (.frame .alive)
  | 4 => (indexOf 32 index).map (.frame .restart) | 5 => (indexOf 32 index).map (.frame .checksum)
  | 6 => (indexOf 64 index).map (.signal .range) | 7 => (indexOf 64 index).map (.signal .step)
  | 8 => (indexOf 64 index).map (.signal .frozen)
  | 9 => (indexOf 4 index).map (.vote .a) | 10 => (indexOf 4 index).map (.vote .b)
  | 11 => (indexOf 4 index).map (.vote .c) | 12 => (indexOf 4 index).map (.vote .split)
  | 13 => match index with
    | 0 => some (.portDown .chassis) | 1 => some (.portDown .cluster) | _ => none
  | 14 => some .storeLost
  | _ => none

/-- The group's bit of a group mask. -/
def GroupMask.has (m : GroupMask) : Group → Bool
  | .engine => m.engine | .brake => m.brake | .network => m.network | .monitor => m.monitor

/-- The mask names at least one group. -/
def GroupMask.any (m : GroupMask) : Bool := m.engine || m.brake || m.network || m.monitor

/-- KEY_ON, CRANKING and RUNNING, the running states of a ride (R68). -/
def RideState.isRunning : RideState → Bool
  | .keyOn | .cranking | .running => true
  | .asleep | .settling | .configure | .closing => false

end Sys2Proof.Machine
end

