-- ==== Sys2Proof/Config.lean ====
section
/-!
DEFINITION. The free values: what the spec leaves open and the part goes on from. Each is a constant with no
body, so nothing can be proved of its value. The first two are applied to the counter
`State.freeUses`, which each use advances; the others are functions of the bytes that were read.
-/

namespace Sys2Proof

/-- R90 leaves open which of the PORT_DOWN sample and the change of the PORT_DOWN class is taken first
at one change of the chassis port's condition: true for the class first (log 8). -/
opaque Config.portClassFirst : Nat → Bool

/-- R169 has the response echo the request code, and a frame of length 0 carries none (R192): the
byte echoed (log 9). -/
opaque Config.echoOfNoCode : Nat → Byte

/-- What a load makes of a watch entry's bytes that are no image of the part's own writing (log 10). -/
opaque Config.unreadableWatch : List Byte → Option Machine.WatchEntry

/-- The same for a signal entry's bytes (log 10). -/
opaque Config.unreadableSignal : List Byte → Option Machine.SignalEntry

/-- The same for a vote rule's bytes (log 10). -/
opaque Config.unreadableVote : List Byte → Option Machine.VoteRule

/-- The same for a fault definition's bytes (log 10). -/
opaque Config.unreadableFault : List Byte → Option Machine.FaultDef

/-- The same for the settings image (log 10). -/
opaque Config.unreadableSettings : List Byte → Option Machine.Settings

/-- The same for the record slots of a MEMORY region (log 10). -/
opaque Config.unreadableRecords : List Byte → List Machine.FaultRecord

end Sys2Proof
end

