-- ==== Sys2Proof/Machine/Defaults.lean ====
section
/-!
DEFINITION. The default settings, and the values each block takes at power-on reset and at ride start.
-/

namespace Sys2Proof.Machine

/-- The default settings (R187). -/
def Settings.default : Settings :=
  { ignitionBlanking := 1500, crankTail := 2000, supplyTail := 500, absTail := 1000,
    portTail := 500, silenceTime := 100, qualifyRun := 60, qualifySpeed := 100,
    proveOutTime := 2000, lampStretch := 1000, beaconPeriod := 1000, noticeLevel := 0,
    noticeEnables := ⟨true, true, true, true⟩ }

/-- Every table entry EMPTY and the settings at their defaults (R187). -/
def Tables.empty : Tables :=
  { watch := Table.fill 32 none, signals := Table.fill 64 none, votes := Table.fill 4 none,
    faults := Table.fill 64 none, settings := Settings.default }

/-- The Chassis Port at power-on reset and wake (R7). -/
def ChassisPort.initial : ChassisPort := { errorCount := 0, condition := .live, silence := none }

/-- A watch entry's runtime at power-on reset, ride start and erase (R10). -/
def WatchRuntime.initial : WatchRuntime :=
  { freshness := .never, lastGood := none, previousAlive := none }

/-- A monitor at power-on reset, wake and ride start (R35). -/
def Monitor.initial : Monitor := { running := false, remaining := 0, arrivals := 0, previous := none }

/-- A signal's runtime at power-on reset, wake and ride start (R38). -/
def SignalRuntime.initial : SignalRuntime := { value := none, previous := none, frozenRun := 0 }

/-- A fault's runtime at power-on reset, wake, ride start and entry into CONFIGURE (R97). -/
def FaultRuntime.initial : FaultRuntime := { counter := 0, verdict := .untested, failed := false }

/-- An inactive class with its timer IDLE. -/
def BlankingClass.inactive : BlankingClass := { active := false, timer := none }

/-- Every class inactive: power-on reset, entry into SETTLING, entry into CLOSING (R84). -/
def Classes.inactive : Classes :=
  { ignition := .inactive, crank := .inactive, lowSupply := .inactive, absActive := .inactive,
    portDown := .inactive }

/-- The Ride Controller at power-on reset (R68, R69, R77, R78, R80, R82, R83). -/
def RideController.initial : RideController :=
  { state := .asleep, band := .deep, ign := .low, ignCount := 0, rideNumber := 0, clockTicks := 0,
    runTime := 0, speedReached := false, hold := false, classes := .inactive }

/-- The Fault Memory at power-on reset and entry into ASLEEP (R116). -/
def FaultMemory.initial : FaultMemory := { records := [], full := false, dirty := false }

/-- A lamp at power-on reset and entry into SETTLING (R138). -/
def LampState.initial : LampState :=
  { request := .off, stretch := none, stretched := none, proveOut := false, displayed := .off,
    phase := none }

/-- The Lamp Driver at power-on reset and entry into SETTLING (R138). -/
def LampDriver.initial : LampDriver := { engine := .initial, abs := .initial, proveTimer := none }

/-- The Cluster Transmitter at power-on reset (R152, R156, R157, R160, R162, R165); the beacon period
in use before the first ride start is DESIGN CHOICE (log 23), unsafe: a claim about it before a ride
start would rest on the model. -/
def Transmitter.initial : Transmitter :=
  { response := none, notices := Table.fill 64 false, slots := Table.fill 32 none, queue := [],
    beaconDue := false, beaconTimer := none, beaconPeriod := 1000, noticeLevel := 0,
    enables := ⟨true, true, true, true⟩, attempt := none, errorCount := 0, offline := none }

/-- The Management Engine at power-on reset (R167). -/
def ManagementEngine.initial : ManagementEngine :=
  { inbox := .empty, buffer := [], unconfigured := false }

/-- The store as delivered: every byte of both regions reads 0xFF (R184). -/
def PersistentStore.delivered : PersistentStore :=
  { tables := [], memory := [], op := none, storeLost := false }

/-- The strap value k = 2·ID1 + ID0 (section 0.6). -/
def strapValue (id0 id1 : Bool) : Fin 4 :=
  match id1, id0 with
  | false, false => 0 | false, true => 1 | true, false => 2 | true, true => 3

end Sys2Proof.Machine
end

