-- ==== Sys2Proof/Machine/State.lean ====
section
/-!
DEFINITION. The state of the part, one field per block of section 0.3, its named updates, the reasons a
step can stop, and the state after reset.
-/

namespace Sys2Proof.Machine

/-- The whole state of the part. -/
structure State where
  /-- the queue of waiting commands, first in, first out -/
  pending : List Instr
  /-- the part is held in power-on reset (R82) -/
  inReset : Bool
  /-- the input pins (section 0.7) -/
  pins : Pins
  /-- the strap value k read at leaving power-on reset (section 0.6, R82) -/
  strap : Fin 4
  /-- the working tables (chapters 1, 3, 4, 6, 10) -/
  tables : Tables
  /-- the Chassis Port (chapter 1) -/
  chassis : ChassisPort
  /-- the watch entries' runtime (R10) -/
  watchRt : Table WatchRuntime 32
  /-- the Deadline Monitor Bank (R20) -/
  monitors : Table Monitor 32
  /-- the signals' runtime (R38) -/
  signalRt : Table SignalRuntime 64
  /-- the vote rules' period timers (R57) -/
  voteTimers : Table (Option Nat) 4
  /-- the faults' runtime (R97) -/
  faultRt : Table FaultRuntime 64
  /-- the Ride Controller (chapter 5) -/
  ride : RideController
  /-- the Fault Memory (chapter 7) -/
  memory : FaultMemory
  /-- the Lamp Driver (chapter 8) -/
  lamps : LampDriver
  /-- the Cluster Transmitter (chapter 9) -/
  tx : Transmitter
  /-- the Management Engine (chapter 10) -/
  mgmt : ManagementEngine
  /-- the Persistent Store (chapter 11) -/
  store : PersistentStore
  /-- the model's own counter of free values used (log 11) -/
  freeUses : Nat
  deriving DecidableEq, Repr

/-- The reasons the part stops. The spec names no event that stops the part, so there are none. -/
inductive Fault where
  deriving DecidableEq, Repr

/-- The reasons a command is refused. -/
inductive Refusal where
  /-- A command without a meaning; raised by `exec` only, for a row not modelled yet. Safe: the model stops. -/
  | notModelled (mnemonic : String)
  /-- The command brings more than 8 bytes, which no CAN data frame carries (section 0.8); raised by the
  chassis frame and by every request. Safe: the model stops on what is no frame (log 14). -/
  | notAFrame
  deriving DecidableEq, Repr

/-- The state with `pending` replaced. -/
def State.setPending (s : State) (x : List Instr) : State := { s with pending := x }

/-- The state with `inReset` replaced. -/
def State.setInReset (s : State) (x : Bool) : State := { s with inReset := x }

/-- The state with `pins` replaced. -/
def State.setPins (s : State) (x : Pins) : State := { s with pins := x }

/-- The state with `strap` replaced. -/
def State.setStrap (s : State) (x : Fin 4) : State := { s with strap := x }

/-- The state with `tables` replaced. -/
def State.setTables (s : State) (x : Tables) : State := { s with tables := x }

/-- The state with `chassis` replaced. -/
def State.setChassis (s : State) (x : ChassisPort) : State := { s with chassis := x }

/-- The state with `watchRt` replaced. -/
def State.setWatchRt (s : State) (x : Table WatchRuntime 32) : State := { s with watchRt := x }

/-- The state with `monitors` replaced. -/
def State.setMonitors (s : State) (x : Table Monitor 32) : State := { s with monitors := x }

/-- The state with `signalRt` replaced. -/
def State.setSignalRt (s : State) (x : Table SignalRuntime 64) : State := { s with signalRt := x }

/-- The state with `voteTimers` replaced. -/
def State.setVoteTimers (s : State) (x : Table (Option Nat) 4) : State := { s with voteTimers := x }

/-- The state with `faultRt` replaced. -/
def State.setFaultRt (s : State) (x : Table FaultRuntime 64) : State := { s with faultRt := x }

/-- The state with `ride` replaced. -/
def State.setRide (s : State) (x : RideController) : State := { s with ride := x }

/-- The state with `memory` replaced. -/
def State.setMemory (s : State) (x : FaultMemory) : State := { s with memory := x }

/-- The state with `lamps` replaced. -/
def State.setLamps (s : State) (x : LampDriver) : State := { s with lamps := x }

/-- The state with `tx` replaced. -/
def State.setTx (s : State) (x : Transmitter) : State := { s with tx := x }

/-- The state with `mgmt` replaced. -/
def State.setMgmt (s : State) (x : ManagementEngine) : State := { s with mgmt := x }

/-- The state with `store` replaced. -/
def State.setStore (s : State) (x : PersistentStore) : State := { s with store := x }

/-- The state with `freeUses` replaced. -/
def State.setFreeUses (s : State) (x : Nat) : State := { s with freeUses := x }

/-- The state right after leaving power-on reset (R82), every item at its power-on value, of a part as
delivered (R184). DESIGN CHOICE (log 6): the pins low and VSENSE 0, so k = 0; unsafe, a claim about the
pins at reset would rest on the model. DESIGN CHOICE (log 7): the store erased; unsafe likewise. -/
def State.reset : State :=
  { pending := []
    inReset := false
    pins := { ign := .low, vsense := 0, id0 := false, id1 := false }
    strap := strapValue false false
    tables := .empty
    chassis := .initial
    watchRt := Table.fill 32 .initial
    monitors := Table.fill 32 .initial
    signalRt := Table.fill 64 .initial
    voteTimers := Table.fill 4 none
    faultRt := Table.fill 64 .initial
    ride := .initial
    memory := .initial
    lamps := .initial
    tx := .initial
    mgmt := .initial
    store := .delivered
    freeUses := 0 }

end Sys2Proof.Machine
end

