-- ==== Sys2Proof/Machine/Memory.lean ====
section
/-!
DEFINITION. Byte-addressed areas: the transfer buffer and the two store regions.

An area is a list of cells in one canonical form: addresses strictly rising, no cell equal to the byte
`d` that an unlisted address reads as. `d` is 0 in the transfer buffer (R167) and 0xFF, the erased
byte, in the store regions (R184).
-/

namespace Sys2Proof.Machine

/-- The byte an unlisted position of the transfer buffer reads as (R167: all 0). -/
def bufferFill : Byte := 0x00

/-- The byte an unlisted position of a store region reads as (R184: the erased state). -/
def storeFill : Byte := 0xFF

/-- The byte at an address. -/
def Mem.read (d : Byte) : List Host.Cell → Nat → Byte
  | [], _ => d
  | (x, b) :: m, a => if x = a then b else Mem.read d m a

/-- The area with one byte written; a cell that would equal `d` is not listed. -/
def Mem.write (d : Byte) : List Host.Cell → Nat → Byte → List Host.Cell
  | [], a, b => if b = d then [] else [(a, b)]
  | (x, c) :: m, a, b =>
    if x < a then (x, c) :: Mem.write d m a b
    else if x = a then (if b = d then m else (a, b) :: m)
    else if b = d then (x, c) :: m else (a, b) :: (x, c) :: m

/-- The area with bytes written at rising addresses from `a`. -/
def Mem.writeBytes (d : Byte) : List Host.Cell → Nat → List Byte → List Host.Cell
  | m, _, [] => m
  | m, a, b :: bs => Mem.writeBytes d (Mem.write d m a b) (a + 1) bs

/-- The area that holds the given bytes from `a` on and `d` everywhere else. -/
def Mem.ofBytes (d : Byte) : Nat → List Byte → List Host.Cell
  | _, [] => []
  | a, b :: bs => if b = d then Mem.ofBytes d (a + 1) bs else (a, b) :: Mem.ofBytes d (a + 1) bs

/-- `n` bytes of the area from `a` on. -/
def Mem.bytes (d : Byte) (m : List Host.Cell) (a n : Nat) : List Byte :=
  (List.range n).map fun k => Mem.read d m (a + k)

/-- The canonical form of cells from address `lo` to below `size`. -/
def Mem.wfFrom (d : Byte) (size : Nat) : Nat → List Host.Cell → Bool
  | _, [] => true
  | lo, (x, b) :: m => decide (lo ≤ x) && decide (x < size) && (b != d) && Mem.wfFrom d size (x + 1) m

/-- The canonical form of an area of `size` bytes. -/
def Mem.wf (d : Byte) (size : Nat) (m : List Host.Cell) : Bool := Mem.wfFrom d size 0 m

end Sys2Proof.Machine
end

