-- ==== Sys2Proof/Machine/Images.lean ====
section
/-!
DEFINITION. Byte layouts of chapter 12: entry images (section 12.4), record images (section 12.5) and the
contents of the store regions (section 12.6). Decoding an entry image answers none where R176 stage 1
reports RANGE.
-/

namespace Sys2Proof.Machine

/-! ### Numbers in bytes (section 0.8: low byte first) -/

/-- A number's low byte. -/
def byteOf (n : Nat) : Byte := BitVec.ofNat 8 n

/-- A 16-bit number, low byte first. -/
def le16 (n : Nat) : List Byte := [byteOf n, byteOf (n / 256)]

/-- The 16-bit two's complement form of an integer. -/
def twos16 (v : Int) : Nat := (v % 65536).toNat

/-- The 8-bit two's complement form of an integer. -/
def twos8 (v : Int) : Nat := (v % 256).toNat

/-- The number in two bytes, low byte first. -/
def u16 (lo hi : Byte) : Nat := lo.toNat + 256 * hi.toNat

/-- The signed number in two bytes. -/
def s16 (lo hi : Byte) : Int := if u16 lo hi < 32768 then u16 lo hi else (u16 lo hi : Int) - 65536

/-- The signed number in one byte. -/
def s8 (b : Byte) : Int := if b.toNat < 128 then b.toNat else (b.toNat : Int) - 256

/-- A byte from its bits, bit 0 first. -/
def packBits : List Bool → Nat
  | [] => 0
  | b :: bs => (if b then 1 else 0) + 2 * packBits bs

/-- Bit `n` of a byte. -/
def bitOf (b : Byte) (n : Nat) : Bool := b.getLsbD n

/-- A group mask's byte (section 12.1). -/
def GroupMask.toByte (m : GroupMask) : Byte := byteOf (packBits [m.engine, m.brake, m.network, m.monitor])

/-- The group mask in a byte, bits 4..7 ignored (R192, R194). -/
def GroupMask.ofByte (b : Byte) : GroupMask := ⟨bitOf b 0, bitOf b 1, bitOf b 2, bitOf b 3⟩

/-- A blanking mask's byte (section 12.1). -/
def BlankingMask.toByte (m : BlankingMask) : Byte :=
  byteOf (packBits [m.ignition, m.crank, m.lowSupply, m.absActive, m.portDown])

/-- The blanking mask in a byte, bits 5..7 ignored (R194). -/
def BlankingMask.ofByte (b : Byte) : BlankingMask :=
  ⟨bitOf b 0, bitOf b 1, bitOf b 2, bitOf b 3, bitOf b 4⟩

/-- A value where a condition holds. -/
def require {α : Type} (c : Bool) (x : α) : Option α := if c then some x else none

/-- The payload byte named by bits 0..2 of an optional byte (section 12.4). -/
def payloadIndex (b : Byte) : Fin 8 := ⟨b.toNat % 8, Nat.mod_lt _ (by decide)⟩

/-! ### Watch entry, 17 bytes -/

def AliveField.toByte (a : AliveField) : Byte := byteOf (128 + (if a.high then 8 else 0) + a.byte.val)

/-- The image of a watch entry as FETCH ENTRY writes it (section 12.4, R194). -/
def WatchEntry.image (e : WatchEntry) : List Byte :=
  le16 e.identifier.toNat ++ [byteOf e.expectedLength, byteOf e.mode.code]
    ++ le16 e.deadline ++ le16 e.minimumInterval ++ [byteOf e.burstLimit] ++ le16 e.startAllowance
    ++ [byteOf e.gate.code,
        (match e.alive with | none => 0 | some a => a.toByte),
        (match e.checksum with | none => 0 | some c => byteOf (128 + c.byte.val)),
        (match e.checksum with | none => 0 | some c => c.seed),
        byteOf e.policy.code,
        (match e.staleMarker with | none => 0 | some i => byteOf (128 + i.val))]

/-- Every field of a watch entry lies in its values (R8); the others have types that admit no other. -/
def WatchEntry.legal (e : WatchEntry) : Bool :=
  decide (e.expectedLength ≤ 8) && decide (e.deadline ≤ 65535) && decide (e.minimumInterval ≤ 65535)
    && decide (1 ≤ e.burstLimit) && decide (e.burstLimit ≤ 15) && decide (e.startAllowance ≤ 65535)

/-- The watch entry in an image, or none where a field lies outside its values (R8, R176 stage 1). -/
def WatchEntry.ofImage : List Byte → Option WatchEntry
  | [id0, id1, len, mode, d0, d1, m0, m1, burst, a0, a1, gate, alive, sum, seed, policy, stale] => do
    let mode ← MonitorMode.ofCode mode.toNat
    let gate ← Gate.ofCode gate.toNat
    let policy ← ForwardPolicy.ofCode policy.toNat
    let e : WatchEntry :=
      { identifier := BitVec.ofNat 11 (u16 id0 id1), expectedLength := len.toNat, mode := mode,
        deadline := u16 d0 d1, minimumInterval := u16 m0 m1, burstLimit := burst.toNat,
        startAllowance := u16 a0 a1, gate := gate,
        alive := if bitOf alive 7 then some ⟨payloadIndex alive, bitOf alive 3⟩ else none,
        checksum := if bitOf sum 7 then some ⟨payloadIndex sum, seed⟩ else none,
        policy := policy,
        staleMarker := if bitOf stale 7 then some (payloadIndex stale) else none }
    require (decide (u16 id0 id1 ≤ 0x7FF) && e.legal) e
  | _ => none

/-! ### Signal entry, 17 bytes -/

/-- The image of a signal entry (section 12.4). -/
def SignalEntry.image (e : SignalEntry) : List Byte :=
  [byteOf e.watch.val, byteOf e.startBit, byteOf e.length, byteOf e.signedness.code]
    ++ le16 (twos16 e.gain) ++ [byteOf e.shift] ++ le16 (twos16 e.offset)
    ++ le16 (twos16 e.rangeLow) ++ le16 (twos16 e.rangeHigh) ++ le16 e.stepLimit
    ++ [byteOf e.frozenLimit, byteOf e.role.code]

/-- A number of the engineering range, -32768..32767. -/
def isEngineering (v : Int) : Bool := decide (-32768 ≤ v) && decide (v ≤ 32767)

/-- Every field of a signal entry lies in its values (R36). -/
def SignalEntry.legal (e : SignalEntry) : Bool :=
  decide (e.startBit ≤ 63) && decide (1 ≤ e.length) && decide (e.length ≤ 16) && isEngineering e.gain
    && decide (e.shift ≤ 15) && isEngineering e.offset && isEngineering e.rangeLow
    && isEngineering e.rangeHigh && decide (e.stepLimit ≤ 65535) && decide (e.frozenLimit ≤ 255)
    && decide (e.frozenLimit ≠ 1)

/-- The signal entry in an image, or none where a field lies outside its values (R36, R176). -/
def SignalEntry.ofImage : List Byte → Option SignalEntry
  | [w, start, len, sign, g0, g1, shift, o0, o1, l0, l1, h0, h1, s0, s1, frozen, role] => do
    let w ← indexOf 32 w.toNat
    let sign ← Signedness.ofCode sign.toNat
    let role ← Role.ofCode role.toNat
    let e : SignalEntry :=
      { watch := w, startBit := start.toNat, length := len.toNat, signedness := sign,
        gain := s16 g0 g1, shift := shift.toNat, offset := s16 o0 o1, rangeLow := s16 l0 l1,
        rangeHigh := s16 h0 h1, stepLimit := u16 s0 s1, frozenLimit := frozen.toNat, role := role }
    require e.legal e
  | _ => none

/-! ### Vote rule, 11 bytes -/

/-- The image of a vote rule; an absent member C is 0xFF (section 12.4, R194). -/
def VoteRule.image (e : VoteRule) : List Byte :=
  [byteOf e.memberA.val, byteOf e.memberB.val,
   (match e.memberC with | none => 0xFF | some c => byteOf c.val)]
    ++ le16 e.absoluteTolerance ++ [byteOf e.relativeTolerance] ++ le16 e.floor ++ le16 e.period
    ++ [byteOf e.gate.code]

/-- Member C of a vote image: 0xFF is absent, any other value of 64 or more is RANGE (R194). -/
def memberCOf (b : Byte) : Option (Option (Fin 64)) :=
  if b = 0xFF then some none else (indexOf 64 b.toNat).map some

/-- Every field of a vote rule lies in its values (R55). -/
def VoteRule.legal (e : VoteRule) : Bool :=
  decide (e.absoluteTolerance ≤ 32767) && decide (e.relativeTolerance ≤ 255)
    && decide (e.floor ≤ 32767) && decide (10 ≤ e.period) && decide (e.period ≤ 1000)

/-- The vote rule in an image, or none where a field lies outside its values (R55, R176). -/
def VoteRule.ofImage : List Byte → Option VoteRule
  | [a, b, c, t0, t1, rel, f0, f1, p0, p1, gate] => do
    let a ← indexOf 64 a.toNat
    let b ← indexOf 64 b.toNat
    let c ← memberCOf c
    let gate ← Gate.ofCode gate.toNat
    let e : VoteRule :=
      { memberA := a, memberB := b, memberC := c, absoluteTolerance := u16 t0 t1,
        relativeTolerance := rel.toNat, floor := u16 f0 f1, period := u16 p0 p1, gate := gate }
    require e.legal e
  | _ => none

/-! ### Fault definition, 20 bytes -/

/-- Bytes padded with zeros up to a length. -/
def padTo (n : Nat) (bs : List Byte) : List Byte := bs ++ List.replicate (n - bs.length) 0

/-- The image of a fault definition (section 12.4); capture bytes beyond the count are 0 (R194). -/
def FaultDef.image (e : FaultDef) : List Byte :=
  [byteOf e.source.kindCode, byteOf e.source.indexCode, byteOf e.group.code, byteOf e.level,
   byteOf e.stepUp, byteOf e.stepDown, byteOf e.confirm, byteOf (twos8 e.heal),
   byteOf (packBits [e.jumpUp, e.jumpDown, e.twoRide, e.immediateLamp]), byteOf e.lamp.code,
   byteOf e.lampOffRides, byteOf e.agingRides, e.mask.toByte, byteOf e.capture.length]
    ++ padTo 6 (e.capture.map fun i => byteOf i.val)

/-- Every field of a fault definition lies in its values (R93). -/
def FaultDef.legal (e : FaultDef) : Bool :=
  decide (e.level ≤ 3) && decide (1 ≤ e.stepUp) && decide (e.stepUp ≤ 127) && decide (1 ≤ e.stepDown)
    && decide (e.stepDown ≤ 127) && decide (1 ≤ e.confirm) && decide (e.confirm ≤ 127)
    && decide (-128 ≤ e.heal) && decide (e.heal ≤ 0) && decide (1 ≤ e.lampOffRides)
    && decide (e.lampOffRides ≤ 15) && decide (e.agingRides ≤ 250) && decide (e.capture.length ≤ 6)

/-- The capture list in bytes, or none where one names no signal. -/
def captureOf : List Byte → Option (List (Fin 64))
  | [] => some []
  | b :: bs => do
    let i ← indexOf 64 b.toNat
    let rest ← captureOf bs
    some (i :: rest)

/-- The fault definition in an image, or none where a field lies outside its values (R93, R94, R176). -/
def FaultDef.ofImage : List Byte → Option FaultDef
  | kind :: index :: group :: level :: up :: down :: p :: n :: flags :: lamp :: off :: aging :: mask
      :: count :: list => do
    let source ← Source.ofCodes kind.toNat index.toNat
    let group ← Group.ofCode group.toNat
    let lamp ← LampField.ofCode lamp.toNat
    let capture ← captureOf (list.take count.toNat)
    let e : FaultDef :=
      { source := source, group := group, level := level.toNat, stepUp := up.toNat,
        stepDown := down.toNat, confirm := p.toNat, heal := s8 n, jumpUp := bitOf flags 0,
        jumpDown := bitOf flags 1, twoRide := bitOf flags 2, immediateLamp := bitOf flags 3,
        lamp := lamp, lampOffRides := off.toNat, agingRides := aging.toNat,
        mask := BlankingMask.ofByte mask, capture := capture }
    require (decide (list.length = 6) && decide (count.toNat ≤ 6) && e.legal) e
  | _ => none

/-! ### Settings, 24 bytes -/

/-- The settings image (section 12.4). -/
def Settings.image (e : Settings) : List Byte :=
  le16 e.ignitionBlanking ++ le16 e.crankTail ++ le16 e.supplyTail ++ le16 e.absTail
    ++ le16 e.portTail ++ le16 e.silenceTime ++ le16 e.qualifyRun ++ le16 (twos16 e.qualifySpeed)
    ++ le16 e.proveOutTime ++ le16 e.lampStretch ++ le16 e.beaconPeriod
    ++ [byteOf e.noticeLevel, e.noticeEnables.toByte]

/-- The settings in 24 bytes, as carried; fewer or more bytes are no settings image. -/
def Settings.ofImage : List Byte → Option Settings
  | [a0, a1, b0, b1, c0, c1, d0, d1, e0, e1, f0, f1, g0, g1, h0, h1, i0, i1, j0, j1, k0, k1, level,
     enables] =>
    some
      { ignitionBlanking := u16 a0 a1, crankTail := u16 b0 b1, supplyTail := u16 c0 c1,
        absTail := u16 d0 d1, portTail := u16 e0 e1, silenceTime := u16 f0 f1,
        qualifyRun := u16 g0 g1, qualifySpeed := s16 h0 h1, proveOutTime := u16 i0 i1,
        lampStretch := u16 j0 j1, beaconPeriod := u16 k0 k1, noticeLevel := level.toNat,
        noticeEnables := GroupMask.ofByte enables }
  | _ => none

/-- A value clamped to a range. -/
def clamp (lo hi n : Nat) : Nat := if n < lo then lo else if hi < n then hi else n

/-- The beacon period brought into its range (R177). -/
def clampBeacon (n : Nat) : Nat :=
  if n = 0 then 0 else if n < 100 then 100 else if 5000 < n then 5000 else n / 100 * 100

/-- The qualify speed brought into its range (R177). -/
def clampSpeed (v : Int) : Int := if v < 0 then 0 else if 32767 < v then 32767 else v

/-- Each setting brought into its range (R177). -/
def Settings.clamped (e : Settings) : Settings :=
  { ignitionBlanking := clamp 0 10000 e.ignitionBlanking, crankTail := clamp 0 10000 e.crankTail,
    supplyTail := clamp 0 10000 e.supplyTail, absTail := clamp 0 10000 e.absTail,
    portTail := clamp 0 10000 e.portTail, silenceTime := clamp 20 2000 e.silenceTime,
    qualifyRun := clamp 1 600 e.qualifyRun, qualifySpeed := clampSpeed e.qualifySpeed,
    proveOutTime := clamp 1000 5000 e.proveOutTime, lampStretch := clamp 0 5000 e.lampStretch,
    beaconPeriod := clampBeacon e.beaconPeriod, noticeLevel := clamp 0 4 e.noticeLevel,
    noticeEnables := e.noticeEnables }

/-- The number of settings whose stored value differs from the decoded one, 0..12 (R177). -/
def Settings.clampCount (e : Settings) : Nat :=
  ([e.ignitionBlanking != e.clamped.ignitionBlanking, e.crankTail != e.clamped.crankTail,
    e.supplyTail != e.clamped.supplyTail, e.absTail != e.clamped.absTail,
    e.portTail != e.clamped.portTail, e.silenceTime != e.clamped.silenceTime,
    e.qualifyRun != e.clamped.qualifyRun, e.qualifySpeed != e.clamped.qualifySpeed,
    e.proveOutTime != e.clamped.proveOutTime, e.lampStretch != e.clamped.lampStretch,
    e.beaconPeriod != e.clamped.beaconPeriod, e.noticeLevel != e.clamped.noticeLevel].filter
      (fun b => b)).length

/-! ### Record image, 11 to 29 bytes (section 12.5) -/

def CaptureItem.image (c : CaptureItem) : List Byte :=
  byteOf (c.signal.val + (if c.valid then 128 else 0)) :: le16 (twos16 c.value)

/-- The record image of section 12.5; byte 0 is the fault number. -/
def FaultRecord.image (r : FaultRecord) : List Byte :=
  [byteOf (r.fault.val + 1), byteOf (r.status.code + 4 * r.rideState.code + 32 * r.band.code),
   byteOf r.occurrences] ++ le16 r.firstRide ++ le16 r.lastRide ++ [byteOf r.goodRides]
    ++ le16 r.clock ++ [byteOf r.signals.length] ++ r.signals.flatMap CaptureItem.image

/-- The fault index that a fault number 1..64 names. -/
def faultOfNumber (n : Nat) : Option (Fin 64) := if n = 0 then none else indexOf 64 (n - 1)

/-- `n` captured signals from the bytes of a record image. -/
def captureItemsOf : Nat → List Byte → Option (List CaptureItem)
  | 0, _ => some []
  | n + 1, b :: lo :: hi :: rest => do
    let i ← indexOf 64 (b.toNat % 64)
    let items ← captureItemsOf n rest
    some (⟨i, s16 lo hi, bitOf b 7⟩ :: items)
  | _ + 1, _ => none

/-- A captured value lies in the engineering range. -/
def CaptureItem.legal (c : CaptureItem) : Bool := isEngineering c.value

/-- Every field of a record lies in its values (R114). -/
def FaultRecord.legal (r : FaultRecord) : Bool :=
  decide (1 ≤ r.occurrences) && decide (r.occurrences ≤ 255) && decide (r.firstRide ≤ r.lastRide)
    && decide (r.lastRide ≤ 65535) && decide (r.goodRides ≤ 255) && r.rideState.isRunning
    && decide (r.clock ≤ 65535) && decide (r.signals.length ≤ 6) && r.signals.all CaptureItem.legal

/-- The record in a record slot, or none where the bytes are no record image. -/
def FaultRecord.ofImage : List Byte → Option FaultRecord
  | num :: flags :: occ :: f0 :: f1 :: l0 :: l1 :: good :: c0 :: c1 :: count :: list => do
    let fault ← faultOfNumber num.toNat
    let status ← RecordStatus.ofCode (flags.toNat % 4)
    let state ← RideState.ofCode (flags.toNat / 4 % 8)
    let band ← Band.ofCode (flags.toNat / 32 % 4)
    let items ← captureItemsOf count.toNat list
    let r : FaultRecord :=
      { fault := fault, status := status, occurrences := occ.toNat, firstRide := u16 f0 f1,
        lastRide := u16 l0 l1, goodRides := good.toNat, rideState := state, band := band,
        clock := u16 c0 c1, signals := items }
    require (decide (count.toNat ≤ 6) && r.legal) r
  | _ => none

/-! ### Region contents (section 12.6) -/

/-- A table entry in a region: its presence byte and its image, or all 0 where EMPTY. -/
def slotBytes {α : Type} (len : Nat) (image : α → List Byte) : Option α → List Byte
  | none => List.replicate (len + 1) 0
  | some e => 1 :: image e

/-- A free entry, where it is one the table can hold; else EMPTY. -/
def freeEntry {α : Type} (legal : α → Bool) : Option α → Option α
  | none => none
  | some e => if legal e then some e else none

/-- A table entry read from its slot. A presence byte other than 0 and 1, or an image that does not decode,
gives a free value: EMPTY or any entry within its values (log 10). DESIGN CHOICE (log 24): a load reads an
image as STORE ENTRY does, so set bits that R194 ignores, and the image bytes of a slot whose presence byte
is 0, are ignored; unsafe for a region that the part did not write. -/
def slotEntry {α : Type} (ofImage : List Byte → Option α) (legal : α → Bool)
    (free : List Byte → Option α) : List Byte → Option α
  | [] => freeEntry legal (free [])
  | p :: img =>
    if p = 0 then none
    else if p = 1 then
      (match ofImage img with
        | some e => some e
        | none => freeEntry legal (free (p :: img)))
    else freeEntry legal (free (p :: img))

/-- The bytes of every slot of a table, in index order. -/
def tableBytes {α : Type} {n : Nat} (len : Nat) (image : α → List Byte) (t : Table (Option α) n) :
    List Byte :=
  (List.finRange n).flatMap fun i => slotBytes len image (t.at i)

/-- `len` bytes of a region content from `a` on. -/
def sliceOf (content : List Byte) (a len : Nat) : List Byte := (content.drop a).take len

/-- A table read from a region content: slots of `len` bytes from `base` on. -/
def tableOf {α : Type} (n : Nat) (base len : Nat) (ofImage : List Byte → Option α)
    (legal : α → Bool) (free : List Byte → Option α) (content : List Byte) : Table (Option α) n :=
  Table.build fun i => slotEntry ofImage legal free (sliceOf content (base + i.val * len) len)

/-- The content of the TABLES region, 3144 bytes (section 12.6). -/
def Tables.content (t : Tables) : List Byte :=
  tableBytes 17 WatchEntry.image t.watch ++ tableBytes 17 SignalEntry.image t.signals
    ++ tableBytes 11 VoteRule.image t.votes ++ tableBytes 20 FaultDef.image t.faults
    ++ t.settings.image

/-- The settings read from their image: as carried where each lies in its range, as the part writes them
(R177), else a free value within the ranges (log 10). Bits 4..7 of the group enables are ignored (DESIGN
CHOICE, log 24; unsafe for a region that the part did not write). -/
def loadedSettings (image : List Byte) : Settings :=
  match Settings.ofImage image with
  | none => Settings.default
  | some e => if e.clamped = e then e else ((Config.unreadableSettings image).getD Settings.default).clamped

/-- The tables a TABLES content holds (R186). -/
def Tables.ofContent (content : List Byte) : Tables :=
  { watch := tableOf 32 0 18 WatchEntry.ofImage WatchEntry.legal Config.unreadableWatch content
    signals := tableOf 64 576 18 SignalEntry.ofImage SignalEntry.legal Config.unreadableSignal content
    votes := tableOf 4 1728 12 VoteRule.ofImage VoteRule.legal Config.unreadableVote content
    faults := tableOf 64 1776 21 FaultDef.ofImage FaultDef.legal Config.unreadableFault content
    settings := loadedSettings (sliceOf content 3120 24) }

/-- The content of the MEMORY region, 583 bytes: ride number, record count, 20 record slots. -/
def memoryContent (rideNumber : Nat) (records : List FaultRecord) : List Byte :=
  le16 rideNumber ++ [byteOf records.length]
    ++ padTo 580 (records.flatMap fun r => padTo 29 r.image)

/-- `n` records from the record slots. -/
def recordsOf : Nat → List Byte → Option (List FaultRecord)
  | 0, _ => some []
  | n + 1, bs => do
    let r ← FaultRecord.ofImage (bs.take 29)
    let rest ← recordsOf n (bs.drop 29)
    some (r :: rest)

/-- Records that a memory can hold beside a ride number (R78, R114, R115). -/
def recordsLegal (rideNumber : Nat) (rs : List FaultRecord) : Bool :=
  decide (rs.length ≤ 20) && rs.all FaultRecord.legal && rs.all (fun r => decide (r.lastRide ≤ rideNumber))
    && decide (rs.map (·.fault)).Nodup

/-- Free records, where a memory can hold them; else none (log 10). -/
def freeRecords (rideNumber : Nat) (content : List Byte) : List FaultRecord :=
  if recordsLegal rideNumber (Config.unreadableRecords content) then Config.unreadableRecords content
  else []

/-- The records in the record slots of a MEMORY content; slots that decode to no records that a memory can
hold give free records (log 10). DESIGN CHOICE (log 24): unused bits of a record image, the bytes behind it
in its slot, and the slots at or beyond the record count are ignored where they are set; unsafe for a region
that the part did not write. -/
def loadedRecords (rideNumber count : Nat) (slots content : List Byte) : List FaultRecord :=
  match recordsOf count slots with
  | none => freeRecords rideNumber content
  | some rs => if recordsLegal rideNumber rs then rs else freeRecords rideNumber content

/-- The ride number and records that a MEMORY content holds (R186). -/
def memoryOfContent (content : List Byte) : Nat × List FaultRecord :=
  match content with
  | lo :: hi :: count :: slots =>
    (u16 lo hi, loadedRecords (u16 lo hi) count.toNat slots content)
  | _ => (0, [])

/-! ### Check value and validity (R184) -/

/-- The sum of bytes, each 0..255. -/
def byteSum (bs : List Byte) : Nat := bs.foldr (fun b n => b.toNat + n) 0

/-- The check value of a content (R184). -/
def checkValue (content : List Byte) : Nat := 65535 - byteSum content % 65536

/-- The size of the TABLES content. -/
def tablesSize : Nat := 3144

/-- The size of the MEMORY content. -/
def memorySize : Nat := 583

/-- A region's content of `size` bytes. -/
def regionContent (size : Nat) (m : List Host.Cell) : List Byte := Mem.bytes storeFill m 0 size

/-- A region is valid: its state byte is 1, its check value matches, and its bytes are not all 0xFF
(R184). -/
def regionValid (size : Nat) (m : List Host.Cell) : Bool :=
  Mem.read storeFill m (size + 2) == 1
    && u16 (Mem.read storeFill m size) (Mem.read storeFill m (size + 1))
        == checkValue (regionContent size m)
    && !(regionContent (size + 2) m).all (· == 0xFF)

/-- Stages 1 and 2 of a write: the state byte 0, then the content (R185). -/
def regionBeginWrite (size : Nat) (content : List Byte) (m : List Host.Cell) : List Host.Cell :=
  Mem.writeBytes storeFill (Mem.write storeFill m (size + 2) 0) 0 content

/-- Stage 3 of a write: the check value formed from the new content, then the state byte 1 (R185). -/
def regionEndWrite (size : Nat) (m : List Host.Cell) : List Host.Cell :=
  Mem.write storeFill
    (Mem.writeBytes storeFill m size (le16 (checkValue (regionContent size m)))) (size + 2) 1

end Sys2Proof.Machine
end

