-- ==== Sys2Proof/Machine/Ops.lean ====
section
/-!
DEFINITION. The named readings of the state that several blocks share, and the smallest named changes:
setting a notice-pending flag, detaching an attempt from its item, offering a frame to a slot.
-/

namespace Sys2Proof.Machine

/-- The outcome of a command that always answers a next state: nothing happens in power-on reset (R82)
nor where the command's event cannot take place; else its effect. -/
def eventWhen (possible : Prop) [Decidable possible] (effect : State → State) (s : State) :
    Host.Outcome State Fault Refusal :=
  .next (if s.inReset = false ∧ possible then effect s else s)

/-! ### Timers -/

/-- One tick of a timer: a RUNNING timer falls by 1. -/
def countDown : Option Nat → Option Nat
  | none => none
  | some n => some (n - 1)

/-- A timer loaded with a time; a time of 0 leaves it IDLE (R145, R162). -/
def loadUnlessZero (n : Nat) : Option Nat := if n = 0 then none else some n

/-! ### Part identifiers (section 0.6) -/

/-- The request identifier, 0x7C0 + 4k. -/
def requestId (k : Fin 4) : CanId := BitVec.ofNat 11 (0x7C0 + 4 * k.val)

/-- The response identifier. -/
def responseId (k : Fin 4) : CanId := BitVec.ofNat 11 (0x7C0 + 4 * k.val + 1)

/-- The notice identifier. -/
def noticeId (k : Fin 4) : CanId := BitVec.ofNat 11 (0x7C0 + 4 * k.val + 2)

/-- The beacon identifier. -/
def beaconId (k : Fin 4) : CanId := BitVec.ofNat 11 (0x7C0 + 4 * k.val + 3)

/-- The identifier is one of the four part identifiers. -/
def isPartId (k : Fin 4) (id : CanId) : Bool :=
  id == requestId k || id == responseId k || id == noticeId k || id == beaconId k

/-! ### Readings -/

/-- Pass-through applies: the part is in CONFIGURE or UNCONFIGURED (R9, R156). -/
def State.passThrough (s : State) : Bool := s.ride.state == .configure || s.mgmt.unconfigured

/-- The first signal entry that holds a role (R49). -/
def roleHolder (s : State) (role : Role) : Option (Fin 64) :=
  (List.finRange 64).find? fun i =>
    match s.tables.signals.at i with
    | none => false
    | some e => e.role == role

/-- The role value (R49): the holder's value, 0 where there is none. -/
def roleValue (s : State) (role : Role) : Int :=
  match roleHolder s role with
  | none => 0
  | some i => ((s.signalRt.at i).value).getD 0

/-- A signal's validity (R47). -/
def signalValid (s : State) (i : Fin 64) : Bool :=
  match s.tables.signals.at i with
  | none => false
  | some e => (s.signalRt.at i).value.isSome && (s.watchRt.at e.watch).freshness == .fresh

/-- A signal's value as readers see it, 0 when absent or EMPTY (R48). -/
def signalValue (s : State) (i : Fin 64) : Int :=
  match s.tables.signals.at i with
  | none => 0
  | some _ => ((s.signalRt.at i).value).getD 0

/-- The freshness of the watch entry a signal names; NEVER for an EMPTY signal. -/
def signalFreshness (s : State) (i : Fin 64) : Freshness :=
  match s.tables.signals.at i with
  | none => .never
  | some e => (s.watchRt.at e.watch).freshness

/-- The ride clock in seconds, saturating at 65535 (R79). -/
def rideClock (s : State) : Nat := min (s.ride.clockTicks / 1000) 65535

/-- The verdict of a fault number; an EMPTY one is UNTESTED (R97, R129). -/
def verdictOf (s : State) (f : Fin 64) : Verdict :=
  match s.tables.faults.at f with
  | none => .untested
  | some _ => (s.faultRt.at f).verdict

/-- The level of a fault number; an EMPTY one is level 0 (R120, R159). -/
def levelOf (s : State) (f : Fin 64) : Nat :=
  match s.tables.faults.at f with
  | none => 0
  | some d => d.level

/-- The record of a fault, if one is held. -/
def recordOf (s : State) (f : Fin 64) : Option FaultRecord := s.memory.records.find? (·.fault == f)

/-- The fault whose definition names a source (R95). -/
def faultNaming (s : State) (src : Source) : Option (Fin 64) :=
  (List.finRange 64).find? fun f =>
    match s.tables.faults.at f with
    | none => false
    | some d => d.source == src

/-- The watch entry that an identifier matches (R9). -/
def watchNaming (t : Tables) (id : CanId) : Option (Fin 32) :=
  (List.finRange 32).find? fun i =>
    match t.watch.at i with
    | none => false
    | some e => e.identifier == id

/-- A gate is open in a ride state (R21). -/
def gateOpen : Gate → RideState → Bool
  | .awake, st => st.isRunning
  | .running, st => st == .running
  | .notCranking, st => st == .keyOn || st == .running

/-! ### The transmitter's items -/

/-- The attempt no longer belongs to an item that `p` picks out (R151, R154, R156). -/
def Transmitter.detach (t : Transmitter) (p : Item → Bool) : Transmitter :=
  match t.attempt with
  | none => t
  | some a => if p a.item then { t with attempt := some { a with item := .gone } } else t

/-- The attempt's resend mark set where it carries the item (R158, R162). -/
def Transmitter.markResend (t : Transmitter) (item : Item) : Transmitter :=
  match t.attempt with
  | none => t
  | some a => if a.item = item then { t with attempt := some { a with resend := true } } else t

/-- A fault's notice-pending flag set (R157), with the resend mark of R158. -/
def setNotice (f : Fin 64) (s : State) : State :=
  s.setTx { (s.tx.markResend (.notice f)) with notices := s.tx.notices.put f true }

/-- The notice-pending flags of several faults set. -/
def setNotices (fs : List (Fin 64)) (s : State) : State := fs.foldl (fun s f => setNotice f s) s

/-- An offer to a forwarding slot (R154): the frame is placed, and an attempt of the frame it replaces
is detached. -/
def offerSlot (w : Fin 32) (frame : Frame) (s : State) : State :=
  s.setTx { (s.tx.detach (· == .slot w)) with slots := s.tx.slots.put w (some frame) }

/-- The item is a slot's frame or the queue's head. -/
def Item.isForwarded : Item → Bool
  | .slot _ => true
  | .queueHead => true
  | .response | .notice _ | .beacon | .gone => false

/-- The forwarding slots and the pass-through queue emptied (R156). -/
def Transmitter.emptyForwarding (t : Transmitter) : Transmitter :=
  { (t.detach Item.isForwarded) with slots := Table.fill 32 none, queue := [] }

/-- A frame handed to the pass-through queue (R156): a full queue first discards its head. -/
def enqueueFrame (frame : Frame) (s : State) : State :=
  if s.tx.queue.length < 8 then
    s.setTx { s.tx with queue := s.tx.queue ++ [frame] }
  else
    s.setTx { (s.tx.detach (· == .queueHead)) with queue := s.tx.queue.tail ++ [frame] }

/-- Every item given up, at entry into SETTLING and into ASLEEP (R152, R156, R157, R162, R165): an
attempt in progress finishes and completes none (R166). -/
def Transmitter.giveUp (t : Transmitter) : Transmitter :=
  { (t.detach fun _ => true) with
    response := none, notices := Table.fill 64 false, slots := Table.fill 32 none, queue := [],
    beaconDue := false, beaconTimer := none, errorCount := 0, offline := none }

end Sys2Proof.Machine
end

