-- ==== Sys2Proof/Machine/Blanking.lean ====
section
/-!
DEFINITION. The blanking classes (section 5.5).
-/

namespace Sys2Proof.Machine

/-- A class by name. -/
def Classes.get (c : Classes) : TailClass → BlankingClass
  | .crank => c.crank
  | .lowSupply => c.lowSupply
  | .absActive => c.absActive
  | .portDown => c.portDown

/-- The classes with one replaced. -/
def Classes.put (c : Classes) (cls : TailClass) (x : BlankingClass) : Classes :=
  match cls with
  | .crank => { c with crank := x }
  | .lowSupply => { c with lowSupply := x }
  | .absActive => { c with absActive := x }
  | .portDown => { c with portDown := x }

/-- A class's tail in the settings (R86 to R89). -/
def Settings.tail (e : Settings) : TailClass → Nat
  | .crank => e.crankTail
  | .lowSupply => e.supplyTail
  | .absActive => e.absTail
  | .portDown => e.portTail

/-- The classes follow their conditions in the running states and CONFIGURE (R84; log 19). -/
def followsConditions (s : State) : Bool := s.ride.state.isRunning || s.ride.state == .configure

/-- A class replaced in the state. -/
def setClass (cls : TailClass) (x : BlankingClass) (s : State) : State :=
  s.setRide { s.ride with classes := s.ride.classes.put cls x }

/-- A class's condition begins: it becomes active, a running tail becomes IDLE (R84). -/
def beginClass (cls : TailClass) (s : State) : State :=
  if followsConditions s then setClass cls ⟨true, none⟩ s else s

/-- A class's condition ends: with a tail it stays active on the loaded tail, without one it becomes
inactive (R84). -/
def endClass (cls : TailClass) (s : State) : State :=
  if followsConditions s then
    let tail := s.tables.settings.tail cls
    setClass cls (if tail = 0 then ⟨false, none⟩ else ⟨true, some tail⟩) s
  else s

/-- The classes at ride start (R84), IGNITION started by R85. -/
def classesAtRideStart (s : State) : Classes :=
  { ignition :=
      if s.tables.settings.ignitionBlanking = 0 then .inactive
      else ⟨true, some s.tables.settings.ignitionBlanking⟩
    crank := .inactive
    lowSupply := ⟨s.ride.band != .normal, none⟩
    absActive := .inactive
    portDown := ⟨s.chassis.condition == .down, none⟩ }

/-- Some class that the mask names is active (R99). -/
def blanks (mask : BlankingMask) (c : Classes) : Bool :=
  mask.ignition && c.ignition.active || mask.crank && c.crank.active
    || mask.lowSupply && c.lowSupply.active || mask.absActive && c.absActive.active
    || mask.portDown && c.portDown.active

end Sys2Proof.Machine
end

