-- ==== Sys2Proof/Machine/Lamps.lean ====
section
/-!
DEFINITION. The Lamp Driver (chapter 8): the requests, the stretch, the displayed pattern and the outputs.
-/

namespace Sys2Proof.Machine

/-! ### Requests -/

/-- A fault's record is CONFIRMED. -/
def hasConfirmed (s : State) (f : Fin 64) : Bool :=
  s.memory.records.any fun r => r.fault == f && r.status == .confirmed

/-- The lamp field is one of the engine lamp's. -/
def LampField.isEngine : LampField → Bool
  | .engineSteady | .engineFlash => true
  | .none | .abs => false

/-- Some non-empty fault definition satisfies `p`. -/
def someFault (s : State) (p : Fin 64 → FaultDef → Bool) : Bool :=
  (List.finRange 64).any fun f =>
    match s.tables.faults.at f with
    | none => false
    | some d => p f d

/-- A fault's verdict is FAILING. -/
def isFailing (s : State) (f : Fin 64) : Bool := (s.faultRt.at f).verdict == .failing

/-- The engine warning lamp's request (R139). -/
def engineRequest (s : State) : Pattern :=
  if someFault s fun f d => d.lamp == .engineFlash && isFailing s f && hasConfirmed s f then .flash
  else if someFault s fun f d => d.lamp.isEngine && hasConfirmed s f then .steady
  else if someFault s fun f d => d.immediateLamp && d.lamp.isEngine && isFailing s f then .steady
  else .off

/-- The ABS warning lamp's request (R140). -/
def absRequest (s : State) : Pattern :=
  if someFault s fun f d => d.lamp == .abs && hasConfirmed s f then .steady
  else if someFault s fun f d => d.immediateLamp && d.lamp == .abs && isFailing s f then .steady
  else .off

/-! ### Displayed pattern -/

/-- The pattern the fourth row of R144 gives: the stretched pattern while one is kept, else the request. -/
def LampState.effective (l : LampState) : Pattern := l.stretched.getD l.request

/-- The fourth row of R144 decides: a running state, not UNCONFIGURED, and no prove-out. -/
def followsRequest (s : State) (l : LampState) : Bool :=
  s.ride.state.isRunning && !s.mgmt.unconfigured && !l.proveOut

/-- The displayed pattern by the rows of R144, before the DEEP hold. -/
def targetPattern (s : State) (l : LampState) : Pattern :=
  match s.ride.state with
  | .asleep | .settling | .closing => .off
  | .configure => .steady
  | .keyOn | .cranking | .running =>
    if s.mgmt.unconfigured then .steady else if l.proveOut then .steady else l.effective

/-- The displayed pattern becomes `p`; entering FLASH starts an ON half-cycle, leaving it ends the
phase (R146). -/
def LampState.display (p : Pattern) (l : LampState) : LampState :=
  if l.displayed = p then l
  else { l with displayed := p, phase := if p = .flash then some ⟨true, 250⟩ else none }

/-- The displayed pattern brought up to date (R144), a lit lamp held in DEEP against its effective
request (R147). -/
def refreshLamp (s : State) (l : LampState) : LampState :=
  if s.ride.band = .deep ∧ followsRequest s l = true ∧ l.displayed ≠ .off then l
  else l.display (targetPattern s l)

/-- Both displayed patterns brought up to date. -/
def refreshLamps (s : State) : State :=
  s.setLamps { s.lamps with
    engine := refreshLamp s s.lamps.engine, abs := refreshLamp s s.lamps.abs }

/-! ### A change of request -/

/-- A request that changes to `p` acts on the stretch (R145); outside the running states no stretch is
kept (R138). -/
def LampState.changeRequest (stretchTime : Nat) (running : Bool) (p : Pattern) (l : LampState) :
    LampState :=
  if running = false then { l with request := p, stretch := none, stretched := none }
  else if l.request = .off then
    { l with request := p, stretch := loadUnlessZero stretchTime, stretched := none }
  else if p = .off then
    { l with request := p, stretched := if l.stretch.isSome then some l.request else none }
  else { l with request := p, stretched := none }

/-- A lamp brought up to date with its computed request (R141): a request left as it was touches
nothing. -/
def updateLamp (s : State) (p : Pattern) (l : LampState) : LampState :=
  if l.request = p then l
  else refreshLamp s
    (l.changeRequest s.tables.settings.lampStretch s.ride.state.isRunning p)

/-- The Lamp Driver is told: both requests computed afresh (R141). -/
def updateLamps (s : State) : State :=
  s.setLamps { s.lamps with
    engine := updateLamp s (engineRequest s) s.lamps.engine,
    abs := updateLamp s (absRequest s) s.lamps.abs }

/-! ### The events that set the whole lamp -/

/-- A lamp at ride start with its computed request (R138, R142, R145). -/
def LampState.atRideStart (stretchTime : Nat) (p : Pattern) : LampState :=
  { request := p, stretch := if p = .off then none else loadUnlessZero stretchTime,
    stretched := none, proveOut := true, displayed := .steady, phase := none }

/-- The Lamp Driver at step 3 of ride start. -/
def lampsAtRideStart (s : State) : State :=
  s.setLamps
    { engine := .atRideStart s.tables.settings.lampStretch (engineRequest s)
      abs := .atRideStart s.tables.settings.lampStretch (absRequest s)
      proveTimer := some s.tables.settings.proveOutTime }

/-- A lamp at entry into CONFIGURE with its computed request (R138). -/
def LampState.atConfigure (p : Pattern) : LampState :=
  { request := p, stretch := none, stretched := none, proveOut := false, displayed := .steady,
    phase := none }

/-- The Lamp Driver at entry into CONFIGURE. -/
def lampsAtConfigure (s : State) : State :=
  s.setLamps
    { engine := .atConfigure (engineRequest s), abs := .atConfigure (absRequest s), proveTimer := none }

/-- A lamp at entry into CLOSING: the request unchanged, the lamp off (R138). -/
def LampState.atClosing (l : LampState) : LampState :=
  { l with stretch := none, stretched := none, proveOut := false, displayed := .off, phase := none }

/-- The Lamp Driver at entry into CLOSING. -/
def lampsAtClosing (s : State) : State :=
  s.setLamps { engine := s.lamps.engine.atClosing, abs := s.lamps.abs.atClosing, proveTimer := none }

/-! ### Outputs -/

/-- The driver of a lamp conducts (R148). -/
def LampState.conducts (l : LampState) : Bool :=
  match l.displayed, l.phase with
  | .off, _ => false
  | .steady, _ => true
  | .flash, some ph => ph.on
  | .flash, none => false

/-- LAMP_ENG and LAMP_ABS: both off in power-on reset (R148). -/
def lampOutput (s : State) : Lamp → Bool
  | .engine => !s.inReset && s.lamps.engine.conducts
  | .abs => !s.inReset && s.lamps.abs.conducts

end Sys2Proof.Machine
end

