-- ==== Sys2Proof/Machine/FaultMemory.lean ====
section
/-!
DEFINITION. The Fault Memory (chapter 7): what an entry into FAILING, a closure, CLEAR RECORDS and the commit
cleanup do to the records.
-/

namespace Sys2Proof.Machine

/-- The capacity of the memory (R115). -/
def maxRecords : Nat := 20

/-- The memory changed and marked dirty (R134). -/
def changeRecords (rs : List FaultRecord) (s : State) : State :=
  s.setMemory { s.memory with records := rs, dirty := true }

/-- The signals of a capture list as they stand (R119). -/
def captureSignals (s : State) (is : List (Fin 64)) : List CaptureItem :=
  is.map fun i => ⟨i, signalValue s i, signalValid s i⟩

/-- The record created for a fault that enters FAILING (R118, R119). -/
def newRecord (s : State) (f : Fin 64) (d : FaultDef) : FaultRecord :=
  { fault := f, status := if d.twoRide then .pending else .confirmed, occurrences := 1,
    firstRide := s.ride.rideNumber, lastRide := s.ride.rideNumber, goodRides := 0,
    rideState := s.ride.state, band := s.ride.band, clock := rideClock s,
    signals := captureSignals s d.capture }

/-- The record updated at a new entry into FAILING (R124). -/
def FaultRecord.failAgain (rideNumber : Nat) (r : FaultRecord) : FaultRecord :=
  { r with
    occurrences := min (r.occurrences + 1) 255, lastRide := rideNumber, goodRides := 0,
    status := match r.status with
      | .pending => if r.firstRide < rideNumber then .confirmed else .pending
      | .confirmed => .confirmed
      | .healed => .confirmed }

/-! ### Victim choice (R120) -/

/-- The first key: HEALED before PENDING before CONFIRMED. -/
def RecordStatus.victimRank : RecordStatus → Nat
  | .healed => 0 | .pending => 1 | .confirmed => 2

/-- A record is eligible for a fault of the given level. -/
def eligibleVictim (s : State) (level : Nat) (r : FaultRecord) : Bool :=
  verdictOf s r.fault != .failing && decide (levelOf s r.fault ≤ level)

/-- `a` is a strictly better victim than `b` by status and then level; position decides ties. -/
def betterVictim (s : State) (a b : FaultRecord) : Bool :=
  decide (a.status.victimRank < b.status.victimRank)
    || a.status.victimRank == b.status.victimRank && decide (levelOf s a.fault < levelOf s b.fault)

/-- The best eligible record, the earliest of equals. -/
def bestVictim (s : State) (level : Nat) : List FaultRecord → Option FaultRecord
  | [] => none
  | r :: rs =>
    match bestVictim s level rs with
    | none => if eligibleVictim s level r then some r else none
    | some b => if eligibleVictim s level r && !betterVictim s b r then some r else some b

/-- The records without those of a fault; every record behind moves up (R115). -/
def withoutFault (f : Fin 64) (rs : List FaultRecord) : List FaultRecord := rs.filter (·.fault != f)

/-- A fault without a record enters FAILING: a record is created, in place of a victim where the memory
is full, or MEMORY_FULL is set (R117, R118, R121, R122). -/
def createRecord (f : Fin 64) (d : FaultDef) (s : State) : State :=
  if s.memory.records.length < maxRecords then
    setNotice f (changeRecords (s.memory.records ++ [newRecord s f d]) s)
  else
    match bestVictim s d.level s.memory.records with
    | none => s.setMemory { s.memory with full := true }
    | some v =>
      setNotice f
        (setNotice v.fault
          (changeRecords (withoutFault v.fault s.memory.records ++ [newRecord s f d]) s))

/-- The Fault Memory is told that a fault has entered FAILING (R117). -/
def memoryEnterFailing (f : Fin 64) (d : FaultDef) (s : State) : State :=
  match recordOf s f with
  | some _ =>
    setNotice f
      (changeRecords
        (s.memory.records.map fun r => if r.fault = f then r.failAgain s.ride.rideNumber else r) s)
  | none => createRecord f d s

/-! ### Closure (section 7.4) -/

/-- A record after a good ride (R128): none where it is removed. -/
def FaultRecord.afterGoodRide (d : FaultDef) (r : FaultRecord) : Option FaultRecord :=
  let good := min (r.goodRides + 1) 255
  match r.status with
  | .pending => none
  | .confirmed =>
    some { r with goodRides := good, status := if d.lampOffRides ≤ good then .healed else .confirmed }
  | .healed => if d.agingRides ≠ 0 ∧ d.agingRides ≤ good then none else some { r with goodRides := good }

/-- A record at the closure of a qualified ride (R127, R129). -/
def closeRecord (s : State) (r : FaultRecord) : Option FaultRecord :=
  match s.tables.faults.at r.fault with
  | none => some r
  | some d =>
    if (s.faultRt.at r.fault).failed = false ∧ (s.faultRt.at r.fault).verdict = .passing then
      r.afterGoodRide d
    else some r

/-- The closure of a qualified ride, one step over all records (R126): each raised count, change of
status and removal sets the dirty flag and the notice-pending flag, and the Lamp Driver is told once
if any record changed (R125). -/
def closeRecords (s : State) : State :=
  let changed := s.memory.records.filter fun r => closeRecord s r != some r
  if changed.isEmpty then s
  else
    updateLamps
      (setNotices (changed.map (·.fault))
        (changeRecords (s.memory.records.filterMap (closeRecord s)) s))

/-! ### Removal (R130, R132) -/

/-- The records that satisfy `p` removed, with their notices and, if any was removed, the Lamp Driver
told once (R125). -/
def removeRecords (p : FaultRecord → Bool) (s : State) : State :=
  let removed := s.memory.records.filter p
  if removed.isEmpty then s
  else
    updateLamps
      (setNotices (removed.map (·.fault)) (changeRecords (s.memory.records.filter fun r => !p r) s))

/-- CLEAR RECORDS names the record's fault: its group is in the mask, or its definition is EMPTY and
the mask names some group (R129, R130). -/
def maskNames (mask : GroupMask) (s : State) (r : FaultRecord) : Bool :=
  match s.tables.faults.at r.fault with
  | none => mask.any
  | some d => mask.has d.group

/-- CLEAR RECORDS removes the record. -/
def clearsRecord (mask : GroupMask) (s : State) (r : FaultRecord) : Bool :=
  maskNames mask s r && verdictOf s r.fault != .failing

/-- CLEAR RECORDS keeps the record because its fault is FAILING. -/
def keepsRecord (mask : GroupMask) (s : State) (r : FaultRecord) : Bool :=
  maskNames mask s r && verdictOf s r.fault == .failing

/-- The commit cleanup removes the record: its fault's definition is EMPTY (R132). -/
def orphanRecord (s : State) (r : FaultRecord) : Bool := (s.tables.faults.at r.fault).isNone

end Sys2Proof.Machine
end

