-- ==== Sys2Proof/Machine/FaultTable.lean ====
section
/-!
DEFINITION. The Fault Table unit (chapter 6): from a sample to the counter, the verdict and the hand-offs.
-/

namespace Sys2Proof.Machine

/-- A counted fail: the jump, then the step, saturating at 127 (R100). -/
def failStep (d : FaultDef) (c : Int) : Int :=
  min 127 ((if d.jumpUp = true ∧ c < 0 then 0 else c) + d.stepUp)

/-- A counted pass: the jump, then the step, saturating at -128 (R101). -/
def passStep (d : FaultDef) (c : Int) : Int :=
  max (-128) ((if d.jumpDown = true ∧ 0 < c then 0 else c) - d.stepDown)

/-- The counter after a counted sample. -/
def stepCounter (d : FaultDef) : Finding → Int → Int
  | .fail, c => failStep d c
  | .pass, c => passStep d c

/-- The verdict after a counted sample with the new counter (R102). -/
def nextVerdict (d : FaultDef) (c : Int) (v : Verdict) : Verdict :=
  if (d.confirm : Int) ≤ c then .failing
  else if c ≤ d.heal then .passing
  else if v = .untested then .undecided else v

/-- A fault's runtime replaced. -/
def setFaultRt (f : Fin 64) (x : FaultRuntime) (s : State) : State := s.setFaultRt (s.faultRt.put f x)

/-- The hand-offs of an entry into FAILING: the memory, the notice, the lamps (R104). -/
def enterFailing (f : Fin 64) (d : FaultDef) (s : State) : State :=
  updateLamps (setNotice f (memoryEnterFailing f d s))

/-- The hand-offs of a return from FAILING to PASSING (R105). -/
def returnToPassing (f : Fin 64) (s : State) : State := updateLamps (setNotice f s)

/-- A counted sample moves the counter and the verdict, with its hand-offs (R98 steps 4 and 5, R103). -/
def countSample (f : Fin 64) (d : FaultDef) (x : Finding) (s : State) : State :=
  let rt := s.faultRt.at f
  let c := stepCounter d x rt.counter
  let v := nextVerdict d c rt.verdict
  if v = .failing ∧ rt.verdict ≠ .failing then
    enterFailing f d (setFaultRt f ⟨c, v, true⟩ s)
  else if v = .passing ∧ rt.verdict = .failing then
    returnToPassing f (setFaultRt f ⟨c, v, rt.failed⟩ s)
  else setFaultRt f ⟨c, v, rt.failed⟩ s

/-- A sample reaches the Fault Table unit (R98). -/
def takeSample (src : Source) (x : Finding) (s : State) : State :=
  if s.ride.state.isRunning = false then s
  else
    match faultNaming s src with
    | none => s
    | some f =>
      match s.tables.faults.at f with
      | none => s
      | some d => if blanks d.mask s.ride.classes then s else countSample f d x s

/-- Several samples of one event, each complete before the next (R98). -/
def takeSamples (xs : List (Source × Finding)) (s : State) : State :=
  xs.foldl (fun s x => takeSample x.1 x.2 s) s

/-- A finding from a condition: pass where it holds. -/
def passIf (c : Bool) : Finding := if c then .pass else .fail

end Sys2Proof.Machine
end

