-- ==== Sys2Proof/Machine/Monitors.lean ====
section
/-!
DEFINITION. The Deadline Monitor Bank (chapter 2) and the gate events of monitors and vote timers.
-/

namespace Sys2Proof.Machine

/-- The entry whose monitor stands at an index: non-empty, with a deadline other than 0 (R20). -/
def timedEntry (t : Tables) (w : Fin 32) : Option WatchEntry :=
  match t.watch.at w with
  | none => none
  | some e => if e.deadline = 0 then none else some e

/-! ### Gates (R21 to R23, R58) -/

/-- A monitor at a change of ride state: its gate opens (R22), closes (R23), or takes no event. -/
def gateMonitor (old new : RideState) (e : WatchEntry) (m : Monitor) : Monitor :=
  if gateOpen e.gate old = false ∧ gateOpen e.gate new = true then
    { running := true, remaining := e.deadline + e.startAllowance, arrivals := 0, previous := none }
  else if gateOpen e.gate old = true ∧ gateOpen e.gate new = false then { m with running := false }
  else m

/-- A vote timer at a change of ride state (R58). -/
def gateVoteTimer (old new : RideState) (r : VoteRule) (t : Option Nat) : Option Nat :=
  if gateOpen r.gate old = false ∧ gateOpen r.gate new = true then some r.period
  else if gateOpen r.gate old = true ∧ gateOpen r.gate new = false then none
  else t

/-- Every monitor and vote timer takes its gate event of a change of ride state. -/
def moveGates (old new : RideState) (s : State) : State :=
  (s.setMonitors
    (Table.build fun w =>
      match timedEntry s.tables w with
      | none => s.monitors.at w
      | some e => gateMonitor old new e (s.monitors.at w))).setVoteTimers
    (Table.build fun r =>
      match s.tables.votes.at r with
      | none => s.voteTimers.at r
      | some e => gateVoteTimer old new e (s.voteTimers.at r))

/-- The ride state becomes `new`: the gates move, and the state is entered. -/
def enterRideState (new : RideState) (s : State) : State :=
  let s := moveGates s.ride.state new s
  s.setRide { s.ride with state := new }

/-! ### Arrivals (R25, R26, R28, R29) -/

/-- A monitor replaced. -/
def setMonitor (w : Fin 32) (m : Monitor) (s : State) : State := s.setMonitors (s.monitors.put w m)

/-- The samples of an arrival taken by a RUNNING monitor. -/
def arrivalSamples (w : Fin 32) (e : WatchEntry) (m : Monitor) : List (Source × Finding) :=
  match e.mode with
  | .retrigger => [(.frame .missing w, .pass)]
  | .window =>
    (.frame .missing w, .pass) ::
      match m.previous with
      | none => []
      | some elapsed => [(.frame .early w, passIf (decide (e.minimumInterval ≤ elapsed)))]
  | .period => []

/-- A RUNNING monitor after an arrival. -/
def Monitor.afterArrival (e : WatchEntry) (m : Monitor) : Monitor :=
  match e.mode with
  | .retrigger => { m with remaining := e.deadline, arrivals := min (m.arrivals + 1) 255 }
  | .window =>
    { m with remaining := e.deadline, arrivals := min (m.arrivals + 1) 255, previous := some 0 }
  | .period => { m with arrivals := min (m.arrivals + 1) 255 }

/-- An arrival given to an entry's deadline monitor; an IDLE monitor does not use it (R25). -/
def monitorArrival (w : Fin 32) (s : State) : State :=
  match timedEntry s.tables w with
  | none => s
  | some e =>
    let m := s.monitors.at w
    if m.running then takeSamples (arrivalSamples w e m) (setMonitor w (m.afterArrival e) s) else s

/-! ### Expiries (R27, R30, R32) -/

/-- The check value of a payload with the byte at `i` left out (R13). -/
def frameCheck (c : ChecksumByte) (payload : List Byte) : Byte :=
  byteOf (255 - (byteSum (payload.eraseIdx c.byte.val) + c.seed.toNat) % 256)

/-- The substitute's payload (R155): the stale marker set, the checksum recomputed. -/
def substituteBytes (e : WatchEntry) (lastGood : List Byte) : List Byte :=
  let marked := match e.staleMarker with
    | none => lastGood
    | some i => lastGood.set i.val 0xFF
  match e.checksum with
  | none => marked
  | some c => marked.set c.byte.val (frameCheck c marked)

/-- The STALE mark (R18). -/
def markStale (w : Fin 32) (s : State) : State :=
  s.setWatchRt (s.watchRt.put w { s.watchRt.at w with freshness := .stale })

/-- The substitute offer under HOLD, if there is a last-good payload (R32). -/
def offerSubstitute (w : Fin 32) (e : WatchEntry) (s : State) : State :=
  if e.policy = .hold then
    match (s.watchRt.at w).lastGood with
    | none => s
    | some bytes => offerSlot w ⟨e.identifier, substituteBytes e bytes⟩ s
  else s

/-- A monitor reloaded at its expiry: the deadline alone, no arrivals (R27, R30). -/
def reloadMonitor (w : Fin 32) (e : WatchEntry) (s : State) : State :=
  setMonitor w { s.monitors.at w with remaining := e.deadline, arrivals := 0 } s

/-- The expiry of a RETRIGGER or WINDOW monitor (R27). -/
def monitorExpires (w : Fin 32) (e : WatchEntry) (s : State) : State :=
  reloadMonitor w e (offerSubstitute w e (markStale w (takeSample (.frame .missing w) .fail s)))

/-- The expiry of a PERIOD monitor, judged by its arrivals count (R30). -/
def periodExpires (w : Fin 32) (e : WatchEntry) (s : State) : State :=
  let n := (s.monitors.at w).arrivals
  let s := takeSamples
    [(.frame .missing w, passIf (n != 0)), (.frame .early w, passIf (decide (n ≤ e.burstLimit)))] s
  reloadMonitor w e (if n = 0 then offerSubstitute w e (markStale w s) else s)

/-- A monitor's remaining time has run to 0 while it is RUNNING and the band is not DEEP (R24). -/
def monitorDue (s : State) (w : Fin 32) : Bool :=
  (timedEntry s.tables w).isSome && (s.monitors.at w).running && (s.monitors.at w).remaining == 0
    && s.ride.band != .deep

end Sys2Proof.Machine
end

