-- ==== Sys2Proof/Machine/Store.lean ====
section
/-!
DEFINITION. The Persistent Store (chapter 11): the loads, and the beginning and end of each write.
-/

namespace Sys2Proof.Machine

/-- The longest a store operation lasts, in ticks (R186, R189, R190). -/
def StoreWork.bound : StoreWork → Nat
  | .load => 60 | .memoryWrite => 120 | .tablesWrite => 400 | .reload => 60

/-- An operation begins. -/
def beginOp (w : StoreWork) (s : State) : State := s.setStore { s.store with op := some ⟨w, 0⟩ }

/-- The operation in progress has ended. -/
def endOp (s : State) : State := s.setStore { s.store with op := none }

/-- The operation is in progress and has lasted at least 1 tick, so that it may complete (R186). -/
def opMayComplete (s : State) (w : StoreWork) : Bool :=
  match s.store.op with
  | none => false
  | some op => op.work == w && decide (1 ≤ op.ticks)

/-! ### Loads (R186, R187, R188) -/

/-- Some non-empty watch entry carries one of the part identifiers (R186). -/
def holdsPartId (k : Fin 4) (t : Tables) : Bool :=
  (List.finRange 32).any fun w =>
    match t.watch.at w with
    | none => false
    | some e => isPartId k e.identifier

/-- The runtime of every EMPTY entry has its ride-start values (R10, R35, R38, R57, R97; log 22). -/
def clearEmptyRuntime (s : State) : State :=
  ((((s.setWatchRt (Table.build fun w =>
        if (s.tables.watch.at w).isNone then .initial else s.watchRt.at w)).setMonitors
      (Table.build fun w =>
        if (timedEntry s.tables w).isNone then .initial else s.monitors.at w)).setSignalRt
      (Table.build fun i =>
        if (s.tables.signals.at i).isNone then .initial else s.signalRt.at i)).setVoteTimers
      (Table.build fun r =>
        if (s.tables.votes.at r).isNone then none else s.voteTimers.at r)).setFaultRt
      (Table.build fun f =>
        if (s.tables.faults.at f).isNone then .initial else s.faultRt.at f)

/-- The tables replaced, with the UNCONFIGURED flag. -/
def installTables (t : Tables) (unconfigured : Bool) (s : State) : State :=
  clearEmptyRuntime ((s.setTables t).setMgmt { s.mgmt with unconfigured := unconfigured })

/-- The TABLES region as a load judges it: none where it is lost, or valid with a watch entry on a part
identifier (R184, R186). -/
def loadedTables (s : State) : Option Tables :=
  if regionValid tablesSize s.store.tables then
    let t := Tables.ofContent (regionContent tablesSize s.store.tables)
    if holdsPartId s.strap t then none else some t
  else none

/-- The TABLES region loaded (R186, R187). -/
def loadTables (s : State) : State :=
  match loadedTables s with
  | some t => installTables t false s
  | none => installTables .empty true s

/-- The ride number taken from a load. -/
def setRideNumber (n : Nat) (s : State) : State := s.setRide { s.ride with rideNumber := n }

/-- The MEMORY region loaded (R186, R188). -/
def loadMemory (s : State) : State :=
  if regionValid memorySize s.store.memory then
    let m := memoryOfContent (regionContent memorySize s.store.memory)
    setRideNumber m.1
      ((s.setMemory { records := m.2, full := false, dirty := false }).setStore
        { s.store with storeLost := false })
  else
    setRideNumber 0
      ((s.setMemory { records := [], full := false, dirty := true }).setStore
        { s.store with storeLost := true })

/-! ### Writes (R185, R189, R190) -/

/-- The MEMORY write begins: stages 1 and 2. -/
def beginMemoryWrite (s : State) : State :=
  beginOp .memoryWrite (s.setStore { s.store with
    memory := regionBeginWrite memorySize (memoryContent s.ride.rideNumber s.memory.records)
      s.store.memory })

/-- The MEMORY write completes: stage 3, and the dirty flag clears (R189). -/
def finishMemoryWrite (s : State) : State :=
  endOp ((s.setStore { s.store with memory := regionEndWrite memorySize s.store.memory }).setMemory
    { s.memory with dirty := false })

/-- The TABLES write begins: stages 1 and 2. -/
def beginTablesWrite (s : State) : State :=
  beginOp .tablesWrite (s.setStore { s.store with
    tables := regionBeginWrite tablesSize s.tables.content s.store.tables })

/-- The TABLES write completes: stage 3, and UNCONFIGURED clears (R181). -/
def finishTablesWrite (s : State) : State :=
  endOp ((s.setStore { s.store with tables := regionEndWrite tablesSize s.store.tables }).setMgmt
    { s.mgmt with unconfigured := false })

end Sys2Proof.Machine
end

