-- ==== Sys2Proof/Machine/Ride.lean ====
section
/-!
DEFINITION. The Ride Controller (chapter 5): the chassis port's change of condition, the role updates, ride
start, CONFIGURE, CLOSING, ASLEEP and SETTLING.
-/

namespace Sys2Proof.Machine

/-! ### The chassis port's condition (R4, R6, R89, R90) -/

/-- The finding of a PORT_DOWN sample at a change to a condition (R4). -/
def PortCondition.finding : PortCondition → Finding
  | .live => .pass
  | .down => .fail

/-- The PORT_DOWN class follows the new condition (R89). -/
def classFollowsPort : PortCondition → State → State
  | .live, s => endClass .portDown s
  | .down, s => beginClass .portDown s

/-- The order of sample and class matters: a fault fed by PORT_DOWN 0 names the class, and the change
turns the class on or off. -/
def portOrderMatters (c : PortCondition) (s : State) : Bool :=
  (match faultNaming s (.portDown .chassis) with
    | none => false
    | some f => match s.tables.faults.at f with
      | none => false
      | some d => d.mask.portDown)
    && (classFollowsPort c s).ride.classes.portDown.active != s.ride.classes.portDown.active

/-- The port's condition becomes `c`: the sample is sent and the class follows. R90 leaves their order
open; where it matters it is a free value (log 8). -/
def changePortCondition (c : PortCondition) (s : State) : State :=
  let s := s.setChassis { s.chassis with condition := c }
  let sample := takeSample (.portDown .chassis) c.finding
  if portOrderMatters c s then
    let used := s.setFreeUses (s.freeUses + 1)
    if Config.portClassFirst s.freeUses then sample (classFollowsPort c used)
    else classFollowsPort c (sample used)
  else classFollowsPort c (sample s)

/-! ### Role updates (R50, R73, R74, R77, R88, R143) -/

/-- A role update: the role, its value before the frame, and its new value. -/
structure RoleUpdate where
  role : Role
  before : Int
  after : Int
  deriving DecidableEq, Repr

/-- The ride state after an ENGINE_STATE update (R73). -/
def engineState (v : Int) (st : RideState) : RideState :=
  if st.isRunning = false then st
  else if v = 0 then .keyOn else if v = 1 then .cranking else if v = 2 then .running else st

/-- An ENGINE_STATE update (R73, R74): the gates move, then the CRANK class follows. -/
def engineUpdate (v : Int) (s : State) : State :=
  let old := s.ride.state
  let new := engineState v old
  if new = old then s
  else
    let s := enterRideState new s
    if new = .cranking then beginClass .crank s
    else if old = .cranking then endClass .crank s else s

/-- A VEHICLE_SPEED update (R77). -/
def speedUpdate (v : Int) (s : State) : State :=
  if s.tables.settings.qualifySpeed ≤ v then s.setRide { s.ride with speedReached := true } else s

/-- An ABS_REGULATING value changes from `before` to `after` (R88). -/
def regulatingUpdate (before after : Int) (s : State) : State :=
  if before = 0 ∧ after ≠ 0 then beginClass .absActive s
  else if before ≠ 0 ∧ after = 0 then endClass .absActive s else s

/-- The ABS prove-out ended, the displayed patterns brought up to date (R143, R144). -/
def endAbsProveOut (s : State) : State :=
  refreshLamps (s.setLamps { s.lamps with abs := { s.lamps.abs with proveOut := false } })

/-- An ABS_READY update passed on to the Lamp Driver (R143). -/
def readyUpdate (v : Int) (s : State) : State :=
  if v ≠ 0 ∧ s.lamps.abs.proveOut = true ∧ s.lamps.proveTimer = none then endAbsProveOut s else s

/-- A role update taken as an event of the frame that carries it (R50). -/
def applyRoleUpdate (s : State) (u : RoleUpdate) : State :=
  match u.role with
  | .none => s
  | .engineState => engineUpdate u.after s
  | .vehicleSpeed => speedUpdate u.after s
  | .absRegulating => regulatingUpdate u.before u.after s
  | .absReady => readyUpdate u.after s

/-! ### Ride start (R72) -/

/-- The Cluster Transmitter at ride start: the mask restored (R160), the beacon begun (R162), the slots
and the queue emptied (R156). -/
def Transmitter.atRideStart (e : Settings) (t : Transmitter) : Transmitter :=
  { t.emptyForwarding with
    beaconDue := false, beaconTimer := loadUnlessZero e.beaconPeriod, beaconPeriod := e.beaconPeriod,
    noticeLevel := e.noticeLevel, enables := e.noticeEnables }

/-- Step 1 of ride start: every block's runtime takes its ride-start values; the IGNITION class of step 3
starts with them, since no sample comes between. -/
def rideStartValues (s : State) : State :=
  ((((((((s.setChassis { s.chassis with silence := some s.tables.settings.silenceTime }).setWatchRt
    (Table.fill 32 .initial)).setMonitors (Table.fill 32 .initial)).setSignalRt
    (Table.fill 64 .initial)).setVoteTimers (Table.fill 4 none)).setFaultRt
    (Table.fill 64 .initial)).setMemory { s.memory with full := false }).setTx
    (s.tx.atRideStart s.tables.settings)).setRide
    { s.ride with clockTicks := 0, runTime := 0, speedReached := false,
                  classes := classesAtRideStart s }

/-- Step 2 of ride start: KEY_ON, with the gate openings of a ride that begins with every gate closed. -/
def rideStartGates (s : State) : State :=
  let s := moveGates .settling .keyOn s
  s.setRide { s.ride with state := .keyOn }

/-- Steps 5 and 6 of ride start: the STORE_LOST sample and the samples of ports that are down. -/
def rideStartSamples (s : State) : List (Source × Finding) :=
  (.storeLost, passIf (!s.store.storeLost))
    :: ((if s.chassis.condition = .down then [(.portDown .chassis, .fail)] else [])
      ++ (if s.tx.offline.isSome then [(.portDown .cluster, .fail)] else []))

/-- Ride start, one event in the order of R72. -/
def rideStart (s : State) : State :=
  let s := lampsAtRideStart (rideStartGates (rideStartValues s))
  let s := setNotices (s.memory.records.map (·.fault)) s
  takeSamples (rideStartSamples s) s

/-! ### ASLEEP and SETTLING -/

/-- Entry into SETTLING (R71): HOLD asserted, every block at its wake values, the load begun. -/
def enterSettling (s : State) : State :=
  beginOp .load
    ((((((((((s.setChassis .initial).setMonitors (Table.fill 32 .initial)).setSignalRt
      (Table.fill 64 .initial)).setVoteTimers (Table.fill 4 none)).setFaultRt
      (Table.fill 64 .initial)).setLamps .initial).setTx s.tx.giveUp).setMgmt
      { s.mgmt with inbox := .empty, buffer := [] }).setMemory
      { s.memory with full := false, dirty := false }).setRide
      { s.ride with state := .settling, hold := true, classes := .inactive }
      |>.setStore { s.store with storeLost := false })

/-- Entry into ASLEEP (R76 step 5): HOLD released, the records and every waiting item given up. -/
def enterAsleep (s : State) : State :=
  (((s.setTx s.tx.giveUp).setMgmt { s.mgmt with inbox := .empty }).setMemory .initial).setRide
    { s.ride with state := .asleep, hold := false }

/-! ### CLOSING (R75, R76) -/

/-- The ride in progress is qualified (R77). -/
def rideQualified (s : State) : Bool :=
  s.ride.state.isRunning && decide (s.tables.settings.qualifyRun * 1000 ≤ s.ride.runTime)
    && s.ride.speedReached

/-- The Cluster Transmitter at entry into CLOSING (R156, R162). -/
def Transmitter.atClosing (t : Transmitter) : Transmitter :=
  { t.emptyForwarding with beaconDue := false, beaconTimer := none }

/-- Entry into CLOSING (R75). -/
def closingValues (s : State) : State :=
  let s := enterRideState .closing s
  lampsAtClosing
    (((s.setChassis { s.chassis with silence := none }).setTx s.tx.atClosing).setRide
      { s.ride with classes := .inactive })

/-- Steps 2 and 3 of CLOSING for a qualified ride: the ride number raised, the region dirty, the records
processed (R78, R126). -/
def qualifiedClosure (s : State) : State :=
  closeRecords
    ((s.setRide { s.ride with rideNumber := min (s.ride.rideNumber + 1) 65535 }).setMemory
      { s.memory with dirty := true })

/-- Step 5 of CLOSING: the filtered IGN level decides. -/
def finishClosing (s : State) : State :=
  match s.ride.ign with
  | .low => enterAsleep s
  | .high => enterSettling s

/-- CLOSING (R76): the closure, then the MEMORY write if the region is dirty, else step 5 at once. -/
def enterClosing (s : State) : State :=
  let qualified := rideQualified s
  let s := closingValues s
  let s := if qualified then qualifiedClosure s else s
  if s.memory.dirty then beginMemoryWrite s else finishClosing s

/-- What follows a load, a TABLES write or a reload: ride start with IGN high, CLOSING with IGN low. -/
def startOrClose (s : State) : State :=
  match s.ride.ign with
  | .high => rideStart s
  | .low => enterClosing s

/-! ### CONFIGURE (R91) -/

/-- Entry into CONFIGURE, one event. -/
def enterConfigure (s : State) : State :=
  let s := enterRideState .configure s
  lampsAtConfigure
    ((((s.setChassis { s.chassis with silence := none }).setFaultRt (Table.fill 64 .initial)).setTx
      s.tx.emptyForwarding).setRide { s.ride with runTime := 0, speedReached := false })

/-! ### IGN and supply (R69, R70, R75, R80, R87) -/

/-- A change of the filtered IGN level, as the ride state takes it. A LEAVE CONFIGURE in progress is not
interrupted (R92). -/
def ignChanged (level : Level) (s : State) : State :=
  match level, s.ride.state with
  | .high, .asleep => enterSettling s
  | .low, .keyOn | .low, .cranking | .low, .running => enterClosing s
  | .low, .configure =>
    match s.mgmt.inbox with
    | .working _ => s
    | .empty | .answered => enterClosing s
  | .high, .settling | .high, .keyOn | .high, .cranking | .high, .running | .high, .configure
  | .high, .closing | .low, .asleep | .low, .settling | .low, .closing => s

/-- The supply band after a VSENSE sample in millivolts (R80). -/
def nextBand (sample : Nat) : Band → Band
  | .normal => if sample < 6500 then .deep else if sample < 8500 then .low else .normal
  | .low => if sample < 6500 then .deep else if sample < 9000 then .low else .normal
  | .deep => if sample < 7000 then .deep else .low

/-- The LOW_SUPPLY class follows a change of band (R87). -/
def classFollowsBand (old new : Band) (s : State) : State :=
  if old = .normal ∧ new ≠ .normal then beginClass .lowSupply s
  else if old ≠ .normal ∧ new = .normal then endClass .lowSupply s else s

/-- A change of band: the class follows, and the lamps when the band leaves DEEP (R147). -/
def bandChanged (new : Band) (s : State) : State :=
  let old := s.ride.band
  let s := classFollowsBand old new (s.setRide { s.ride with band := new })
  if old = .deep then refreshLamps s else s

end Sys2Proof.Machine
end

