-- ==== Sys2Proof/Machine/Signals.lean ====
section
/-!
DEFINITION. The Signal Evaluator (chapter 3).
-/

namespace Sys2Proof.Machine

/-! ### Extraction and scaling (R39, R40) -/

/-- The payload as one number, payload bit n its bit n (section 0.8). -/
def payloadNumber : List Byte → Nat
  | [] => 0
  | b :: bs => b.toNat + 256 * payloadNumber bs

/-- The field as read: `len` bits from `start` upward. -/
def rawField (start len : Nat) (payload : List Byte) : Nat :=
  payloadNumber payload / 2 ^ start % 2 ^ len

/-- The raw value (R39). -/
def extract (e : SignalEntry) (payload : List Byte) : Int :=
  let n := rawField e.startBit e.length payload
  match e.signedness with
  | .unsigned => n
  | .signed => if n < 2 ^ (e.length - 1) then n else (n : Int) - 2 ^ e.length

/-- A sum saturated to the engineering range (R40 stage 4). -/
def saturate (v : Int) : Int := max (-32768) (min 32767 v)

/-- The engineering value of a raw value (R40): product, division toward minus infinity, offset,
saturation. -/
def scale (e : SignalEntry) (raw : Int) : Int := saturate (raw * e.gain / 2 ^ e.shift + e.offset)

/-! ### Checks (R42 to R44) -/

/-- The range check's sample. -/
def rangeSample (i : Fin 64) (e : SignalEntry) (v : Int) : List (Source × Finding) :=
  [(.signal .range i, passIf (decide (e.rangeLow ≤ v) && decide (v ≤ e.rangeHigh)))]

/-- The step check's sample, if it applies. -/
def stepSample (i : Fin 64) (e : SignalEntry) (previous : Option Int) (v : Int) :
    List (Source × Finding) :=
  match previous with
  | none => []
  | some p =>
    if e.stepLimit = 0 then []
    else [(.signal .step i, passIf (decide ((v - p).natAbs ≤ e.stepLimit)))]

/-- The frozen run brought up to date. -/
def nextFrozenRun (rt : SignalRuntime) (v : Int) : Nat :=
  if rt.previous = some v then min (rt.frozenRun + 1) 255 else 1

/-- The frozen check's sample, if it applies. -/
def frozenSample (i : Fin 64) (e : SignalEntry) (rt : SignalRuntime) (v : Int) :
    List (Source × Finding) :=
  if e.frozenLimit = 0 ∨ rt.previous = none then []
  else [(.signal .frozen i, passIf (decide (nextFrozenRun rt v < e.frozenLimit)))]

/-- A signal's runtime replaced. -/
def setSignalRt (i : Fin 64) (x : SignalRuntime) (s : State) : State :=
  s.setSignalRt (s.signalRt.put i x)

/-- One signal evaluated on a good frame's payload (R41): its samples, then its runtime (R45). -/
def evaluateSignal (payload : List Byte) (i : Fin 64) (e : SignalEntry) (s : State) : State :=
  let v := scale e (extract e payload)
  let rt := s.signalRt.at i
  setSignalRt i ⟨some v, some v, nextFrozenRun rt v⟩
    (takeSamples (rangeSample i e v ++ stepSample i e rt.previous v ++ frozenSample i e rt v) s)

/-- The signals that name a watch entry, in ascending index. -/
def signalsOf (t : Tables) (w : Fin 32) : List (Fin 64) :=
  (List.finRange 64).filter fun i =>
    match t.signals.at i with
    | none => false
    | some e => e.watch == w

/-- One signal of the frame evaluated, where its entry is non-empty. -/
def evaluateAt (payload : List Byte) (s : State) (i : Fin 64) : State :=
  match s.tables.signals.at i with
  | none => s
  | some e => evaluateSignal payload i e s

/-- The role update of a signal evaluated on a payload, its value before the frame read from `s`. -/
def roleUpdateOf (s : State) (payload : List Byte) (i : Fin 64) : Option RoleUpdate :=
  match s.tables.signals.at i with
  | none => none
  | some e =>
    if e.role = .none then none
    else some ⟨e.role, ((s.signalRt.at i).value).getD 0, scale e (extract e payload)⟩

/-- A good frame's signals evaluated, then the role updates in ascending signal index (R41, R50). -/
def evaluateFrame (w : Fin 32) (payload : List Byte) (s : State) : State :=
  let is := signalsOf s.tables w
  let updates := is.filterMap (roleUpdateOf s payload)
  updates.foldl applyRoleUpdate (is.foldl (evaluateAt payload) s)

/-- The histories of the signals that name a watch entry cleared at a restart (R46). -/
def clearHistories (w : Fin 32) (s : State) : State :=
  s.setSignalRt (Table.build fun i =>
    match s.tables.signals.at i with
    | none => s.signalRt.at i
    | some e =>
      if e.watch = w then { s.signalRt.at i with previous := none, frozenRun := 0 }
      else s.signalRt.at i)

end Sys2Proof.Machine
end

