-- ==== Sys2Proof/Machine/Screener.lean ====
section
/-!
DEFINITION. The Frame Screener (sections 1.2 and 1.3): what becomes of a frame the Chassis Port hands on.
-/

namespace Sys2Proof.Machine

/-- A watch entry's runtime replaced. -/
def setWatchRt (w : Fin 32) (x : WatchRuntime) (s : State) : State := s.setWatchRt (s.watchRt.put w x)

/-! ### The checks (R12 to R14) -/

/-- The checksum byte of a payload holds its check value (R13); true where the entry has none. -/
def checksumHolds (e : WatchEntry) (payload : List Byte) : Bool :=
  match e.checksum with
  | none => true
  | some c => payload.getD c.byte.val 0 == frameCheck c payload

/-- The FRAME_LENGTH sample and, if the length passed, the FRAME_CHECKSUM sample (R12, R13). -/
def lengthAndChecksumSamples (w : Fin 32) (e : WatchEntry) (payload : List Byte) :
    List (Source × Finding) :=
  if payload.length = e.expectedLength then
    (.frame .length w, .pass) ::
      (if e.checksum.isSome then [(.frame .checksum w, passIf (checksumHolds e payload))] else [])
  else [(.frame .length w, .fail)]

/-- Every check before the alive check passed. -/
def reachesAlive (e : WatchEntry) (payload : List Byte) : Bool :=
  payload.length == e.expectedLength && checksumHolds e payload

/-- The received alive value (R14): the low or the high nibble of the named byte. -/
def AliveField.received (a : AliveField) (payload : List Byte) : BitVec 4 :=
  let b := payload.getD a.byte.val 0
  if a.high then b.extractLsb' 4 4 else b.extractLsb' 0 4

/-- The cases of the alive check (R14). -/
inductive AliveCase where
  | first | inSequence | repeated | restart | skip
  deriving DecidableEq, Repr

/-- The first case of R14 that holds for a received value. -/
def aliveCase (previous : Option (BitVec 4)) (received : BitVec 4) : AliveCase :=
  match previous with
  | none => .first
  | some p =>
    if received = p + 1 then .inSequence
    else if received = p then .repeated
    else if received = 0 then .restart
    else .skip

/-- The samples of a case. -/
def AliveCase.samples (w : Fin 32) : AliveCase → List (Source × Finding)
  | .first => []
  | .inSequence => [(.frame .alive w, .pass), (.frame .restart w, .pass)]
  | .repeated => [(.frame .alive w, .fail)]
  | .restart => [(.frame .restart w, .fail)]
  | .skip => [(.frame .alive w, .fail)]

/-- The case leaves the frame good. -/
def AliveCase.isGood : AliveCase → Bool
  | .repeated => false
  | .first | .inSequence | .restart | .skip => true

/-- The alive case of a frame that reaches the check; none where the entry has no alive field. -/
def aliveCaseOf (s : State) (w : Fin 32) (e : WatchEntry) (payload : List Byte) : Option AliveCase :=
  e.alive.map fun a => aliveCase (s.watchRt.at w).previousAlive (a.received payload)

/-- The alive check (R14, R15): the samples, the previous alive value, and at a restart the histories. -/
def aliveCheck (w : Fin 32) (e : WatchEntry) (payload : List Byte) (s : State) : State :=
  match e.alive with
  | none => s
  | some a =>
    let received := a.received payload
    let c := aliveCase (s.watchRt.at w).previousAlive received
    let s := takeSamples (c.samples w) s
    let s := setWatchRt w { s.watchRt.at w with previousAlive := some received } s
    if c = .restart then clearHistories w s else s

/-- An arrival is good: no check classed it bad (section 1.3). -/
def arrivalGood (s : State) (w : Fin 32) (e : WatchEntry) (payload : List Byte) : Bool :=
  reachesAlive e payload
    && (match aliveCaseOf s w e payload with
      | none => true
      | some c => c.isGood)

/-! ### The arrival (R11, R16, R17, R19) -/

/-- A good frame completed (R16). -/
def completeGood (w : Fin 32) (payload : List Byte) (s : State) : State :=
  evaluateFrame w payload
    (setWatchRt w { s.watchRt.at w with freshness := .fresh, lastGood := some payload } s)

/-- The policy offers the arrival as received (R19). -/
def ForwardPolicy.offers : ForwardPolicy → Bool → Bool
  | .none, _ => false
  | .pass, _ => true
  | .drop, good => good
  | .hold, good => good

/-- An arrival screened, one event (R11). -/
def screenArrival (w : Fin 32) (e : WatchEntry) (payload : List Byte) (s : State) : State :=
  let s := monitorArrival w s
  let s := takeSamples (lengthAndChecksumSamples w e payload) s
  let good := arrivalGood s w e payload
  let s := if reachesAlive e payload then aliveCheck w e payload s else s
  let s := if good then completeGood w payload s else s
  if e.policy.offers good then offerSlot w ⟨e.identifier, payload⟩ s else s

/-- A frame handed to the Frame Screener (R9). -/
def screenFrame (id : CanId) (payload : List Byte) (s : State) : State :=
  if s.passThrough then
    if isPartId s.strap id then s else enqueueFrame ⟨id, payload⟩ s
  else
    match watchNaming s.tables id with
    | none => s
    | some w =>
      match s.tables.watch.at w with
      | none => s
      | some e => screenArrival w e payload s

end Sys2Proof.Machine
end

