-- ==== Sys2Proof/Machine/Flags.lean ====
section
/-!
DEFINITION. The flags the part derives: group present (R107) and the summary byte (R164).
-/

namespace Sys2Proof.Machine

/-- A group is present while a non-empty fault of it is FAILING (R107). -/
def groupPresent (s : State) (g : Group) : Bool :=
  (List.finRange 64).any fun f =>
    match s.tables.faults.at f with
    | none => false
    | some d => d.group == g && (s.faultRt.at f).verdict == .failing

/-- The summary byte, bit 0 to bit 7 (section 12.1, R164). -/
def summaryByte (s : State) : Byte :=
  byteOf (packBits [groupPresent s .engine, groupPresent s .brake, groupPresent s .network,
    groupPresent s .monitor, s.memory.full, s.store.storeLost, s.mgmt.unconfigured,
    s.ride.state == .configure])

end Sys2Proof.Machine
end

