-- ==== Sys2Proof/Machine/Transmit.lean ====
section
/-!
DEFINITION. The Cluster Transmitter (chapter 9): the frames it forms, the transmit selector, the end of an
attempt.
-/

namespace Sys2Proof.Machine

/-! ### Frames (sections 12.2, 12.3) -/

/-- A response's frame, its summary byte read now (R150, R193). -/
def responseFrame (s : State) (r : Response) : Frame :=
  ⟨responseId s.strap,
    [r.code, byteOf r.result.code, summaryByte s] ++ padTo 5 r.data⟩

/-- A record status's code in a notice or a response, NONE where there is no record (section 12.1). -/
def statusCode (r : Option FaultRecord) : Nat :=
  match r with
  | none => 0
  | some r => r.status.code

/-- A notice's frame (R161, section 12.3). -/
def noticeFrame (s : State) (f : Fin 64) : Frame :=
  let rt := s.faultRt.at f
  let flags := match s.tables.faults.at f with
    | none => if rt.failed then 2 else 0
    | some d => 1 + (if rt.failed then 2 else 0) + 4 * d.group.code + 16 * d.level
  let r := recordOf s f
  let occurrences := match r with
    | none => 0
    | some r => r.occurrences
  ⟨noticeId s.strap,
    [byteOf (f.val + 1), summaryByte s, byteOf flags, byteOf (verdictOf s f).code,
     byteOf (statusCode r), byteOf occurrences, 0, 0]⟩

/-- The beacon's frame (R163, section 12.3). -/
def beaconFrame (s : State) : Frame :=
  ⟨beaconId s.strap,
    [summaryByte s, byteOf s.ride.state.code, byteOf s.ride.band.code,
     byteOf (s.lamps.engine.displayed.code + 4 * s.lamps.abs.displayed.code),
     byteOf s.memory.records.length] ++ le16 (rideClock s) ++ [0]⟩

/-! ### Selection (R149, R159) -/

/-- A fault's group enable is on; an EMPTY definition passes the group test (R159). -/
def groupEnabled (s : State) (f : Fin 64) : Bool :=
  match s.tables.faults.at f with
  | none => true
  | some d => s.tx.enables.has d.group

/-- A fault's notice is eligible (R159). -/
def noticeEligible (s : State) (f : Fin 64) : Bool :=
  s.tx.notices.at f && s.ride.state != .configure && groupEnabled s f
    && decide (s.tx.noticeLevel ≤ levelOf s f)

/-- The eligible notice of highest level, then lowest fault number, among the given faults in ascending
order. -/
def bestNotice (s : State) : List (Fin 64) → Option (Fin 64)
  | [] => none
  | f :: fs =>
    match bestNotice s fs with
    | none => if noticeEligible s f then some f else none
    | some g => if noticeEligible s f && decide (levelOf s g ≤ levelOf s f) then some f else some g

/-- The slot holding the frame with the lowest identifier among the given entries. -/
def bestSlot (s : State) : List (Fin 32) → Option (Fin 32 × Frame)
  | [] => none
  | w :: ws =>
    match s.tx.slots.at w, bestSlot s ws with
    | none, best => best
    | some fr, none => some (w, fr)
    | some fr, some (v, g) => if fr.id ≤ g.id then some (w, fr) else some (v, g)

/-- The forwarded frame that the third step of R149 takes. -/
def selectForwarded (s : State) : Option (Item × Frame) :=
  if s.passThrough then s.tx.queue.head?.map fun fr => (.queueHead, fr)
  else (bestSlot s (List.finRange 32)).map fun x => (.slot x.1, x.2)

/-- The item the selector takes, and the frame it forms (R149, R150). -/
def select (s : State) : Option (Item × Frame) :=
  match s.tx.response with
  | some r => some (.response, responseFrame s r)
  | none =>
    match bestNotice s (List.finRange 64) with
    | some f => some (.notice f, noticeFrame s f)
    | none =>
      match selectForwarded s with
      | some x => some x
      | none => if s.tx.beaconDue then some (.beacon, beaconFrame s) else none

/-- The transmitter is free: the port is ACTIVE and no attempt is in progress (R149). -/
def transmitterFree (s : State) : Bool := s.tx.offline.isNone && s.tx.attempt.isNone

/-- The transmit selector runs, once at the end of an event, if the transmitter is free (R149; DEDUCED,
log 1; unsafe: a claim about which of several items of one event goes first rests on it). -/
def runSelector (s : State) : State :=
  if transmitterFree s then
    match select s with
    | none => s
    | some (item, frame) => s.setTx { s.tx with attempt := some ⟨frame, item, false⟩ }
  else s

/-! ### The end of an attempt (R151, R152, R153) -/

/-- A successful attempt completes its item (R151). -/
def completeItem (a : Attempt) (s : State) : State :=
  match a.item with
  | .response => (s.setTx { s.tx with response := none }).setMgmt { s.mgmt with inbox := .empty }
  | .notice f =>
    if a.resend then s else s.setTx { s.tx with notices := s.tx.notices.put f false }
  | .slot w => s.setTx { s.tx with slots := s.tx.slots.put w none }
  | .queueHead => s.setTx { s.tx with queue := s.tx.queue.tail }
  | .beacon => if a.resend then s else s.setTx { s.tx with beaconDue := false }
  | .gone => s

/-- The attempt is no longer in progress, with the new error count. -/
def endAttempt (count : Nat) (s : State) : State :=
  s.setTx { s.tx with attempt := none, errorCount := count }

/-- The attempt succeeds (R151). -/
def attemptSucceeds (a : Attempt) (s : State) : State :=
  runSelector (completeItem a (endAttempt (s.tx.errorCount - 1) s))

/-- The attempt fails (R151, R152, R153): at 256 the port goes OFFLINE with its fail sample. -/
def attemptFails (s : State) : State :=
  let s := endAttempt (min (s.tx.errorCount + 8) 256) s
  if s.tx.errorCount = 256 then
    takeSample (.portDown .cluster) .fail (s.setTx { s.tx with offline := some 100 })
  else runSelector s

/-- The attempt loses arbitration (R151). -/
def attemptOutbid (s : State) : State := runSelector (endAttempt s.tx.errorCount s)

/-- The port returns to ACTIVE (R152, R153): the pass sample, then the selector. -/
def portReturns (s : State) : State :=
  runSelector
    (takeSample (.portDown .cluster) .pass
      (s.setTx { s.tx with offline := none, errorCount := 0 }))

/-- The beacon timer expires (R162): the beacon is due, the timer reloaded with the period in use. -/
def beaconExpires (s : State) : State :=
  runSelector
    (s.setTx { (s.tx.markResend .beacon) with
      beaconDue := true, beaconTimer := some s.tx.beaconPeriod })

end Sys2Proof.Machine
end

