-- ==== Sys2Proof/WellFormed.lean ====
section
/-!
DEFINITION. Which commands are well formed: the frame a command stands for is a CAN data frame of at
most 8 bytes (section 0.8), and a request command's bytes decode to the row it is named after (R192).
-/

namespace Sys2Proof

/-- The request codes of section 12.2. -/
def requestCodes : List Byte :=
  [0x10, 0x11, 0x12, 0x13, 0x14, 0x20, 0x21, 0x30, 0x31, 0x40, 0x41, 0x50, 0x51, 0x52]

/-- A frame carries 0..8 payload bytes (section 0.8). -/
def fitsFrame (payload : List Byte) : Bool := payload.length ≤ 8

/-- The commit flag of a LEAVE CONFIGURE, bit 0 of its argument byte, reads `flag` where it is carried. -/
def commitFlagIs (flag : Bool) : List Byte → Bool
  | [] => true
  | b :: _ => b.getLsbD 0 == flag

/-- The frame names no request: it is empty, or its code is none of section 12.2 (R169, R192). -/
def namesNoRequest : List Byte → Bool
  | [] => true
  | c :: _ => !requestCodes.contains c

/-- The payload of the frame a command brings, where it brings one. -/
def Instr.frameBytes : Instr → List Byte
  | .errorFreeFrame _ p => p
  | .requestDiscarded p => p
  | .unknown p => p
  | .status a => 0x10 :: a
  | .readFault a => 0x11 :: a
  | .readSignal a => 0x12 :: a
  | .peekMonitor a => 0x13 :: a
  | .fetchRecord a => 0x14 :: a
  | .readBuffer a => 0x20 :: a
  | .writeBuffer a => 0x21 :: a
  | .clearRecords a => 0x30 :: a
  | .setNoticeMask a => 0x31 :: a
  | .enterConfigure a => 0x40 :: a
  | .leaveConfigureCommit a => 0x41 :: a
  | .leaveConfigureAbandon a => 0x41 :: a
  | .storeEntry a => 0x50 :: a
  | .fetchEntry a => 0x51 :: a
  | .eraseEntry a => 0x52 :: a
  | .busError | .silenceTimerExpiry | .monitorExpiry _ | .periodExpiry _ | .voteExpiry _
  | .ignFilterChange _ | .supplyBandChange _ | .powerOnReset | .loadCompletion
  | .memoryWriteCompletion | .tablesWriteCompletion | .reloadCompletion | .tailTimerExpiry _
  | .ignitionTimerExpiry | .proveOutTimerExpiry | .stretchTimerExpiry _ | .flashPhaseExpiry _
  | .attemptSuccess | .attemptFailure | .lostArbitration | .offlineTimerExpiry
  | .beaconTimerExpiry | .leavePowerOnReset _ _ => []

/-- The bytes name the row the command stands for. -/
def Instr.namesItsRow : Instr → Bool
  | .unknown p => namesNoRequest p
  | .leaveConfigureCommit a => commitFlagIs true a
  | .leaveConfigureAbandon a => commitFlagIs false a
  | .errorFreeFrame _ _ | .requestDiscarded _ | .status _ | .readFault _ | .readSignal _
  | .peekMonitor _ | .fetchRecord _ | .readBuffer _ | .writeBuffer _ | .clearRecords _
  | .setNoticeMask _ | .enterConfigure _ | .storeEntry _ | .fetchEntry _ | .eraseEntry _
  | .busError | .silenceTimerExpiry | .monitorExpiry _ | .periodExpiry _ | .voteExpiry _
  | .ignFilterChange _ | .supplyBandChange _ | .powerOnReset | .loadCompletion
  | .memoryWriteCompletion | .tablesWriteCompletion | .reloadCompletion | .tailTimerExpiry _
  | .ignitionTimerExpiry | .proveOutTimerExpiry | .stretchTimerExpiry _ | .flashPhaseExpiry _
  | .attemptSuccess | .attemptFailure | .lostArbitration | .offlineTimerExpiry
  | .beaconTimerExpiry | .leavePowerOnReset _ _ => true

/-- A well-formed command: its frame fits, and its bytes name its row. -/
def Instr.wellFormed (i : Instr) : Bool := fitsFrame i.frameBytes && i.namesItsRow

end Sys2Proof
end

