-- ==== Sys2Proof/Machine/ChassisPort.lean ====
section
/-!
DEFINITION. The Chassis Port (section 1.1): ERROR_FREE_FRAME, BUS_ERROR and SILENCE_TIMER_EXPIRY.
-/

namespace Sys2Proof.Machine

/-- The port takes frames and counts errors: a running state or CONFIGURE, and not DEEP (R1). -/
def portTakes (s : State) : Bool :=
  (s.ride.state.isRunning || s.ride.state == .configure) && s.ride.band != .deep

/-- The port condition becomes LIVE where it is DOWN and the count is below 96 (R2 step 2, R4). -/
def returnToLive (s : State) : State :=
  if s.chassis.condition = .down ∧ s.chassis.errorCount < 96 then changePortCondition .live s else s

/-- The silence timer reloaded in the running states (R2 step 3, R5). -/
def reloadSilence (s : State) : State :=
  if s.ride.state.isRunning then
    s.setChassis { s.chassis with silence := some s.tables.settings.silenceTime }
  else s

/-- An error-free frame taken by the port (R2). -/
def takeFrame (id : CanId) (payload : List Byte) (s : State) : State :=
  let s := s.setChassis { s.chassis with errorCount := s.chassis.errorCount - 1 }
  runSelector (screenFrame id payload (reloadSilence (returnToLive s)))

/-- R2: an error-free frame on the chassis segment. A payload of more than 8 bytes is no frame (log 14). -/
def execErrorFreeFrame (id : CanId) (payload : List Byte) (s : State) :
    Host.Outcome State Fault Refusal :=
  if fitsFrame payload then eventWhen (portTakes s = true) (takeFrame id payload) s
  else .refused .notAFrame

/-- A bus error taken by the port (R3). -/
def takeBusError (s : State) : State :=
  let s := s.setChassis { s.chassis with errorCount := min (s.chassis.errorCount + 8) 255 }
  runSelector
    (if s.chassis.condition = .live ∧ 128 ≤ s.chassis.errorCount then changePortCondition .down s
     else s)

/-- R3: an error that discards a chassis frame. -/
def execBusError (s : State) : Host.Outcome State Fault Refusal :=
  eventWhen (portTakes s = true) takeBusError s

/-- The silence timer has run to 0 in a running state, not in DEEP (R5). -/
def silenceDue (s : State) : Bool :=
  s.ride.state.isRunning && s.ride.band != .deep && s.chassis.silence == some 0

/-- The silence timer expires (R5). -/
def silenceExpires (s : State) : State :=
  let s := s.setChassis { s.chassis with silence := none }
  runSelector (if s.chassis.condition = .live then changePortCondition .down s else s)

/-- R5: the silence timer reaches 0; no event where it has not (log 3). -/
def execSilenceTimerExpiry (s : State) : Host.Outcome State Fault Refusal :=
  eventWhen (silenceDue s = true) silenceExpires s

end Sys2Proof.Machine
end

