-- ==== Sys2Proof/Machine/Events.lean ====
section
/-!
DEFINITION. The events of the IGN and VSENSE pins, the supply and the store (chapters 5 and 11).
-/

namespace Sys2Proof.Machine

/-! ### IGN and VSENSE (R69, R80) -/

/-- The raw IGN level is `level`, which the ticks sample from now on. Where the filter's count has reached 20
and the raw level differs from the filtered level, the filtered level takes it, the count returns to 0, and
the change is an event for the Ride Controller (R69). That the command carries the raw level, so that it also
drives the pin where the count is below 20, is DESIGN CHOICE (log 4); safe, every run of raw levels sampled
at the ticks can be fed. -/
def takeRawLevel (level : Level) (s : State) : State :=
  let s := s.setPins { s.pins with ign := level }
  if s.ride.ignCount = 20 ∧ s.ride.ign ≠ level then
    runSelector (ignChanged level (s.setRide { s.ride with ign := level, ignCount := 0 }))
  else s

/-- R69: the filtered level takes the raw level at a count of 20; below it, only the raw level changes. -/
def execIgnFilterChange (level : Level) (s : State) : Host.Outcome State Fault Refusal :=
  eventWhen True (takeRawLevel level) s

/-- A VSENSE sample in millivolts brings the band up to date (R80). The command carries the sample
(log 4). -/
def takeSupplySample (sample : Nat) (s : State) : State :=
  let s := s.setPins { s.pins with vsense := sample }
  let new := nextBand sample s.ride.band
  if new = s.ride.band then s else bandChanged new s

/-- R80: a VSENSE sample. -/
def execSupplyBandChange (sample : Nat) (s : State) : Host.Outcome State Fault Refusal :=
  eventWhen True (takeSupplySample sample) s

/-! ### Power-on reset (R82) -/

/-- Every item of working state at its power-on value; the store keeps its regions, and an operation in
progress is broken off (R82, R185). The pins, the waiting commands and the model's counter are no
working state of the part. -/
def powerOnValues (s : State) : State :=
  { State.reset with
    pending := s.pending, inReset := s.inReset, pins := s.pins, strap := s.strap,
    store := { s.store with op := none, storeLost := false }, freeUses := s.freeUses }

/-- R82: the supply falls below 4.5 V. -/
def execPowerOnReset (s : State) : Host.Outcome State Fault Refusal :=
  .next ((powerOnValues s).setInReset true)

/-- The part leaves power-on reset and reads the straps. -/
def leaveReset (id0 id1 : Bool) (s : State) : State :=
  (((powerOnValues s).setInReset false).setStrap (strapValue id0 id1)).setPins
    { s.pins with id0 := id0, id1 := id1 }

/-- R82: the supply exceeds 5.0 V; no event for a part that is not in power-on reset (log 5). -/
def execLeavePowerOnReset (id0 id1 : Bool) (s : State) : Host.Outcome State Fault Refusal :=
  .next (if s.inReset then leaveReset id0 id1 s else s)

/-! ### The store (R186, R189, R181, R182) -/

/-- The load of SETTLING completes (R71, R186). -/
def loadCompletes (s : State) : State := runSelector (startOrClose (loadMemory (loadTables (endOp s))))

/-- R186: the load of both regions completes. -/
def execLoadCompletion (s : State) : Host.Outcome State Fault Refusal :=
  eventWhen (opMayComplete s .load = true) loadCompletes s

/-- The MEMORY write of CLOSING completes (R76 steps 4 and 5, R189). -/
def memoryWriteCompletes (s : State) : State := finishClosing (finishMemoryWrite s)

/-- R189: the MEMORY write completes. -/
def execMemoryWriteCompletion (s : State) : Host.Outcome State Fault Refusal :=
  eventWhen (opMayComplete s .memoryWrite = true) memoryWriteCompletes s

/-- A response formed and placed in the slot; the inbox becomes ANSWERED (R150, R167). -/
def respond (code : Byte) (result : Result) (data : List Byte) (s : State) : State :=
  (s.setTx { s.tx with response := some ⟨code, result, data⟩ }).setMgmt
    { s.mgmt with inbox := .answered }

/-- The data of the response to the LEAVE CONFIGURE at work: a commit answers with the number of records
its cleanup removed (R181), an abandon with none (R182). -/
def workData : Inbox → List Byte
  | .working (.commit removed) => [byteOf removed]
  | .working .abandon => []
  | .empty => []
  | .answered => []

/-- The work of a LEAVE CONFIGURE ends: the response, then ride start or CLOSING (R181, R182). -/
def endOfWork (s : State) : State :=
  runSelector (startOrClose (respond 0x41 .ok (workData s.mgmt.inbox) s))

/-- R181: the TABLES write of a commit completes. -/
def execTablesWriteCompletion (s : State) : Host.Outcome State Fault Refusal :=
  eventWhen (opMayComplete s .tablesWrite = true) (fun s => endOfWork (finishTablesWrite s)) s

/-- R182: the reload of an abandon completes. -/
def execReloadCompletion (s : State) : Host.Outcome State Fault Refusal :=
  eventWhen (opMayComplete s .reload = true) (fun s => endOfWork (loadTables (endOp s))) s

end Sys2Proof.Machine
end

