-- ==== Sys2Proof/Machine/Votes.lean ====
section
/-!
DEFINITION. The Vote Unit (chapter 4).
-/

namespace Sys2Proof.Machine

/-- The allowance of two values (R61). -/
def allowance (r : VoteRule) (x y : Int) : Nat :=
  r.absoluteTolerance + r.relativeTolerance * max x.natAbs y.natAbs / 256

/-- Two values agree (R61). -/
def agree (r : VoteRule) (x y : Int) : Bool := decide ((x - y).natAbs ≤ allowance r x y)

/-- The members of a rule: two or three. -/
def VoteRule.members (r : VoteRule) : List (Fin 64) :=
  match r.memberC with
  | none => [r.memberA, r.memberB]
  | some c => [r.memberA, r.memberB, c]

/-- The rule is evaluated at this expiry (R60): every member's watch entry FRESH, the largest magnitude
not below the floor. -/
def voteEvaluated (s : State) (r : VoteRule) : Bool :=
  r.members.all (fun i => signalFreshness s i == .fresh)
    && r.members.any (fun i => decide (r.floor ≤ (signalValue s i).natAbs))

/-- The samples of a three-member rule by which pairs agree (R62). -/
def threeMemberSamples (k : Fin 4) (ab ac bc : Bool) : List (Source × Finding) :=
  let members (a b c : Finding) : List (Source × Finding) :=
    [(.vote .a k, a), (.vote .b k, b), (.vote .c k, c), (.vote .split k, .pass)]
  match ab, ac, bc with
  | true, true, true => members .pass .pass .pass
  | false, false, true => members .fail .pass .pass
  | false, true, false => members .pass .fail .pass
  | true, false, false => members .pass .pass .fail
  | false, true, true | true, false, true | true, true, false => [(.vote .split k, .pass)]
  | false, false, false => [(.vote .split k, .fail)]

/-- The samples of an expiry (R60, R62, R63). -/
def voteSamples (s : State) (k : Fin 4) (r : VoteRule) : List (Source × Finding) :=
  if voteEvaluated s r then
    let a := signalValue s r.memberA
    let b := signalValue s r.memberB
    match r.memberC with
    | none => [(.vote .split k, passIf (agree r a b))]
    | some c =>
      let c := signalValue s c
      threeMemberSamples k (agree r a b) (agree r a c) (agree r b c)
  else []

/-- A vote timer replaced. -/
def setVoteTimer (k : Fin 4) (t : Option Nat) (s : State) : State := s.setVoteTimers (s.voteTimers.put k t)

/-- The expiry of a rule's timer: the samples, then the reload (R60). -/
def voteExpires (k : Fin 4) (r : VoteRule) (s : State) : State :=
  setVoteTimer k (some r.period) (takeSamples (voteSamples s k r) s)

/-- A vote timer has run to 0 and the band is not DEEP (R59). -/
def voteDue (s : State) (k : Fin 4) : Bool :=
  (s.tables.votes.at k).isSome && s.voteTimers.at k == some 0 && s.ride.band != .deep

end Sys2Proof.Machine
end

