-- ==== Sys2Proof/Machine/Expiries.lean ====
section
/-!
DEFINITION. The expiries of the part's timers. Each acts only when its timer has run to 0; else the command
is no event and changes nothing (log 3).
-/

namespace Sys2Proof.Machine

/-! ### Monitors and vote rules -/

/-- A RETRIGGER or WINDOW monitor's expiry, where the entry's monitor is one (R27). -/
def expireMonitor (w : Fin 32) (s : State) : State :=
  match timedEntry s.tables w with
  | none => s
  | some e => if e.mode = .period then s else runSelector (monitorExpires w e s)

/-- A PERIOD monitor's expiry, where the entry's monitor is one (R30). -/
def expirePeriod (w : Fin 32) (s : State) : State :=
  match timedEntry s.tables w with
  | none => s
  | some e => if e.mode = .period then runSelector (periodExpires w e s) else s

/-- A vote rule's expiry (R60). -/
def expireVote (k : Fin 4) (s : State) : State :=
  match s.tables.votes.at k with
  | none => s
  | some r => runSelector (voteExpires k r s)

/-- R27: a RETRIGGER or WINDOW monitor expires. -/
def execMonitorExpiry (w : Fin 32) (s : State) : Host.Outcome State Fault Refusal :=
  eventWhen (monitorDue s w = true) (expireMonitor w) s

/-- R30: a PERIOD monitor expires. -/
def execPeriodExpiry (w : Fin 32) (s : State) : Host.Outcome State Fault Refusal :=
  eventWhen (monitorDue s w = true) (expirePeriod w) s

/-- R60: a vote rule's period timer expires. -/
def execVoteExpiry (k : Fin 4) (s : State) : Host.Outcome State Fault Refusal :=
  eventWhen (voteDue s k = true) (expireVote k) s

/-! ### Blanking timers (R84, R85) -/

/-- A class's tail timer has run to 0 and the band is not DEEP. -/
def tailDue (s : State) (cls : TailClass) : Bool :=
  (s.ride.classes.get cls).timer == some 0 && s.ride.band != .deep

/-- The tail timer expires: the class becomes inactive, the timer IDLE. -/
def expireTail (cls : TailClass) (s : State) : State := setClass cls .inactive s

/-- R84: the tail timer of a class expires. -/
def execTailTimerExpiry (cls : TailClass) (s : State) : Host.Outcome State Fault Refusal :=
  eventWhen (tailDue s cls = true) (expireTail cls) s

/-- The IGNITION timer has run to 0 and the band is not DEEP. -/
def ignitionDue (s : State) : Bool :=
  s.ride.classes.ignition.timer == some 0 && s.ride.band != .deep

/-- The IGNITION timer expires: the class becomes inactive for the rest of the ride. -/
def expireIgnition (s : State) : State :=
  s.setRide { s.ride with classes := { s.ride.classes with ignition := .inactive } }

/-- R85: the IGNITION timer expires. -/
def execIgnitionTimerExpiry (s : State) : Host.Outcome State Fault Refusal :=
  eventWhen (ignitionDue s = true) expireIgnition s

/-! ### Lamp timers (R142, R143, R145, R146) -/

/-- The prove-out timer has run to 0 and the band is not DEEP. -/
def proveOutDue (s : State) : Bool := s.lamps.proveTimer == some 0 && s.ride.band != .deep

/-- The prove-out of the ABS lamp ends at the expiry (R143). -/
def absProveOutEnds (s : State) : Bool :=
  (roleHolder s .absReady).isNone || roleValue s .absReady != 0

/-- The prove-out timer expires (R142, R143). -/
def expireProveOut (s : State) : State :=
  refreshLamps
    (s.setLamps { s.lamps with
      proveTimer := none
      engine := { s.lamps.engine with proveOut := false }
      abs := { s.lamps.abs with proveOut := s.lamps.abs.proveOut && !absProveOutEnds s } })

/-- R142: the prove-out timer expires. -/
def execProveOutTimerExpiry (s : State) : Host.Outcome State Fault Refusal :=
  eventWhen (proveOutDue s = true) expireProveOut s

/-- A lamp by name. -/
def LampDriver.get (d : LampDriver) : Lamp → LampState
  | .engine => d.engine
  | .abs => d.abs

/-- The driver with one lamp replaced. -/
def LampDriver.put (d : LampDriver) (lamp : Lamp) (l : LampState) : LampDriver :=
  match lamp with
  | .engine => { d with engine := l }
  | .abs => { d with abs := l }

/-- A lamp's stretch timer has run to 0 and the band is not DEEP. -/
def stretchDue (s : State) (lamp : Lamp) : Bool :=
  (s.lamps.get lamp).stretch == some 0 && s.ride.band != .deep

/-- A lamp's stretch ends (R145): the timer IDLE, the stretched pattern absent, the display up to date. -/
def expireStretch (lamp : Lamp) (s : State) : State :=
  s.setLamps (s.lamps.put lamp
    (refreshLamp s { s.lamps.get lamp with stretch := none, stretched := none }))

/-- R145: a lamp's stretch timer expires. -/
def execStretchTimerExpiry (lamp : Lamp) (s : State) : Host.Outcome State Fault Refusal :=
  eventWhen (stretchDue s lamp = true) (expireStretch lamp) s

/-- The half-cycle's remaining time has run to 0. -/
def LampState.phaseDone (l : LampState) : Bool :=
  match l.phase with
  | none => false
  | some ph => ph.remaining == 0

/-- The next half-cycle (R146). -/
def LampState.nextHalfCycle (l : LampState) : LampState :=
  { l with phase := l.phase.map fun ph => ⟨!ph.on, 250⟩ }

/-- A lamp's half-cycle has run to 0 and the band is not DEEP. -/
def flashDue (s : State) (lamp : Lamp) : Bool :=
  (s.lamps.get lamp).phaseDone && s.ride.band != .deep

/-- A lamp's half-cycle ends. -/
def expireFlash (lamp : Lamp) (s : State) : State :=
  s.setLamps (s.lamps.put lamp (s.lamps.get lamp).nextHalfCycle)

/-- R146: a lamp's flash half-cycle expires. -/
def execFlashPhaseExpiry (lamp : Lamp) (s : State) : Host.Outcome State Fault Refusal :=
  eventWhen (flashDue s lamp = true) (expireFlash lamp) s

/-! ### Transmission (R151, R153, R162) -/

/-- An attempt is in progress and ends by `f`. -/
def endOfAttempt (f : Attempt → State → State) (s : State) : State :=
  match s.tx.attempt with
  | none => s
  | some a => f a s

/-- R151: the attempt in progress succeeds. -/
def execAttemptSuccess (s : State) : Host.Outcome State Fault Refusal :=
  eventWhen True (endOfAttempt attemptSucceeds) s

/-- R151, R152: the attempt in progress fails. -/
def execAttemptFailure (s : State) : Host.Outcome State Fault Refusal :=
  eventWhen True (endOfAttempt fun _ => attemptFails) s

/-- R151: the attempt in progress loses arbitration. -/
def execLostArbitration (s : State) : Host.Outcome State Fault Refusal :=
  eventWhen True (endOfAttempt fun _ => attemptOutbid) s

/-- R153: the OFFLINE timer expires. -/
def execOfflineTimerExpiry (s : State) : Host.Outcome State Fault Refusal :=
  eventWhen (s.tx.offline = some 0) portReturns s

/-- R162: the beacon timer expires. -/
def execBeaconTimerExpiry (s : State) : Host.Outcome State Fault Refusal :=
  eventWhen (s.tx.beaconTimer = some 0) beaconExpires s

end Sys2Proof.Machine
end

