-- ==== Sys2Proof/Machine/Operands.lean ====
section
/-!
DEFINITION. The operands of a request frame: its code, its arguments and their ranges (R169, R170, R192,
section 12.2).
-/

namespace Sys2Proof.Machine

/-- The requests of chapter 10. -/
inductive RequestName where
  | status | readFault | readSignal | peekMonitor | fetchRecord | readBuffer | writeBuffer
  | clearRecords | setNoticeMask | enterConfigure | leaveConfigure | storeEntry | fetchEntry | eraseEntry
  deriving DecidableEq, Repr

/-- The request a code names (section 12.2). -/
def RequestName.ofCode (c : Byte) : Option RequestName :=
  match c.toNat with
  | 0x10 => some .status | 0x11 => some .readFault | 0x12 => some .readSignal
  | 0x13 => some .peekMonitor | 0x14 => some .fetchRecord | 0x20 => some .readBuffer
  | 0x21 => some .writeBuffer | 0x30 => some .clearRecords | 0x31 => some .setNoticeMask
  | 0x40 => some .enterConfigure | 0x41 => some .leaveConfigure | 0x50 => some .storeEntry
  | 0x51 => some .fetchEntry | 0x52 => some .eraseEntry | _ => none

/-- The request is permitted in a ride state (R170). -/
def RequestName.permitted : RequestName → RideState → Bool
  | .status, st | .readFault, st | .readSignal, st | .peekMonitor, st | .fetchRecord, st
  | .readBuffer, st | .writeBuffer, st | .clearRecords, st | .setNoticeMask, st =>
    st.isRunning || st == .configure
  | .enterConfigure, st => st == .keyOn
  | .leaveConfigure, st | .storeEntry, st | .fetchEntry, st | .eraseEntry, st => st == .configure

/-- An entry of one of the five tables. -/
inductive EntryRef where
  | watch (i : Fin 32)
  | signal (i : Fin 64)
  | vote (i : Fin 4)
  | fault (f : Fin 64)
  | settings
  deriving DecidableEq, Repr

/-- The table of an entry. -/
def EntryRef.table : EntryRef → TableName
  | .watch _ => .watch | .signal _ => .signal | .vote _ => .vote | .fault _ => .fault
  | .settings => .settings

/-- The index of an entry as requests carry it; a fault's is its number. -/
def EntryRef.index : EntryRef → Nat
  | .watch i => i.val | .signal i => i.val | .vote i => i.val | .fault f => f.val + 1 | .settings => 0

/-- The entry a table and an index name, if both lie in their ranges (R170). -/
def entryRefOf (table index : Nat) : Option EntryRef :=
  match TableName.ofCode table with
  | none => none
  | some .watch => (indexOf 32 index).map .watch
  | some .signal => (indexOf 64 index).map .signal
  | some .vote => (indexOf 4 index).map .vote
  | some .fault => (faultOfNumber index).map .fault
  | some .settings => if index = 0 then some .settings else none

/-- A request with its arguments in their ranges. -/
inductive Request where
  | status
  | readFault (f : Fin 64)
  | readSignal (i : Fin 64)
  | peekMonitor (w : Fin 32)
  | fetchRecord (position : Nat)
  | readBuffer (offset : Nat)
  | writeBuffer (offset : Nat) (data : List Byte)
  | clearRecords (mask : GroupMask)
  | setNoticeMask (level : Nat) (enables : GroupMask)
  | enterConfigure
  | leaveConfigure (commit : Bool)
  | storeEntry (entry : EntryRef)
  | fetchEntry (entry : EntryRef)
  | eraseEntry (entry : EntryRef)
  deriving DecidableEq, Repr

/-- A request of one argument byte; bytes beyond it are ignored, none at all is out of range (R192). -/
def oneArgument (f : Byte → Option Request) : List Byte → Option Request
  | [] => none
  | a :: _ => f a

/-- A request of two argument bytes. -/
def twoArguments (f : Byte → Byte → Option Request) : List Byte → Option Request
  | a :: b :: _ => f a b
  | [_] => none
  | [] => none

/-- WRITE BUFFER: an offset 0..31 and 1..5 data bytes within the buffer (R171, R192). -/
def writeBufferOf : List Byte → Option Request
  | [] => none
  | o :: rest =>
    let data := rest.take 5
    if data.isEmpty = false ∧ o.toNat ≤ 31 ∧ o.toNat + data.length ≤ 32 then
      some (.writeBuffer o.toNat data)
    else none

/-- The request a name and argument bytes give, or none where an argument lies outside its range or is
not carried (R169 step 4, R192). -/
def requestOf (name : RequestName) (args : List Byte) : Option Request :=
  match name with
  | .status => some .status
  | .readFault => oneArgument (fun a => (faultOfNumber a.toNat).map .readFault) args
  | .readSignal => oneArgument (fun a => (indexOf 64 a.toNat).map .readSignal) args
  | .peekMonitor => oneArgument (fun a => (indexOf 32 a.toNat).map .peekMonitor) args
  | .fetchRecord => oneArgument (fun a => some (.fetchRecord a.toNat)) args
  | .readBuffer =>
    oneArgument (fun a => if a.toNat ≤ 31 then some (.readBuffer a.toNat) else none) args
  | .writeBuffer => writeBufferOf args
  | .clearRecords => oneArgument (fun a => some (.clearRecords (GroupMask.ofByte a))) args
  | .setNoticeMask =>
    twoArguments
      (fun a b => if a.toNat ≤ 4 then some (.setNoticeMask a.toNat (GroupMask.ofByte b)) else none)
      args
  | .enterConfigure => some .enterConfigure
  | .leaveConfigure => oneArgument (fun a => some (.leaveConfigure (bitOf a 0))) args
  | .storeEntry => twoArguments (fun a b => (entryRefOf a.toNat b.toNat).map .storeEntry) args
  | .fetchEntry => twoArguments (fun a b => (entryRefOf a.toNat b.toNat).map .fetchEntry) args
  | .eraseEntry => twoArguments (fun a b => (entryRefOf a.toNat b.toNat).map .eraseEntry) args

end Sys2Proof.Machine
end

