-- ==== Sys2Proof/Machine/Editing.lean ====
section
/-!
DEFINITION. Editing the tables (section 10.4) and the checks of a commit (R180).
-/

namespace Sys2Proof.Machine

/-! ### Stages 2 and 3 of STORE ENTRY's checks (R176) -/

/-- An optional payload byte lies below the expected length. -/
def belowLength (length : Nat) : Option (Fin 8) → Bool
  | none => true
  | some i => decide (i.val < length)

/-- Two optional payload bytes, where both are present, differ. -/
def differ : Option (Fin 8) → Option (Fin 8) → Bool
  | some i, some j => i != j
  | some _, none => true
  | none, some _ => true
  | none, none => true

/-- The constraints within a watch entry. -/
def WatchEntry.consistent (e : WatchEntry) : Bool :=
  let alive := e.alive.map AliveField.byte
  let sum := e.checksum.map ChecksumByte.byte
  belowLength e.expectedLength alive && belowLength e.expectedLength sum
    && belowLength e.expectedLength e.staleMarker
    && differ alive sum && differ alive e.staleMarker && differ sum e.staleMarker
    && !(e.mode == .window && e.deadline != 0 && !decide (e.minimumInterval < e.deadline))

/-- The constraint within a signal. -/
def SignalEntry.consistent (e : SignalEntry) : Bool := decide (e.rangeLow ≤ e.rangeHigh)

/-- The members of a vote rule are different signals. -/
def VoteRule.consistent (e : VoteRule) : Bool :=
  e.memberA != e.memberB
    && (match e.memberC with
      | none => true
      | some c => c != e.memberA && c != e.memberB)

/-- Some other non-empty entry of a table satisfies `p`. -/
def otherHas {α : Type} {n : Nat} (t : Table (Option α) n) (i : Fin n) (p : α → Bool) : Bool :=
  (List.finRange n).any fun j =>
    j != i && (match t.at j with
      | none => false
      | some e => p e)

/-- The first of stages 2 and 3 that a watch entry fails. -/
def watchReason (s : State) (i : Fin 32) (e : WatchEntry) : Option Reason :=
  if e.consistent = false then some .layout
  else if isPartId s.strap e.identifier then some .partIdentifier
  else if otherHas s.tables.watch i (fun x => x.identifier == e.identifier) then some .duplicate
  else none

/-- The first of stages 2 and 3 that a signal fails. -/
def signalReason (s : State) (i : Fin 64) (e : SignalEntry) : Option Reason :=
  if e.consistent = false then some .layout
  else if e.role != .none && otherHas s.tables.signals i (fun x => x.role == e.role) then
    some .duplicate
  else none

/-- The stage that a vote rule fails. -/
def voteReason (e : VoteRule) : Option Reason := if e.consistent then none else some .layout

/-- The stage that a fault definition fails. -/
def faultReason (s : State) (f : Fin 64) (e : FaultDef) : Option Reason :=
  if otherHas s.tables.faults f (fun x => x.source == e.source) then some .duplicate else none

/-! ### Replacing an entry, with the runtime consequences of section 10.4 -/

/-- A watch entry stored: a monitor that comes into being, or is removed, has the power-on values
(R20); the entry's own runtime is unchanged (R10). -/
def storeWatch (i : Fin 32) (e : WatchEntry) (s : State) : State :=
  (s.setTables { s.tables with watch := s.tables.watch.put i (some e) }).setMonitors
    (s.monitors.put i .initial)

/-- A watch entry erased (R10, R20). -/
def eraseWatch (i : Fin 32) (s : State) : State :=
  ((s.setTables { s.tables with watch := s.tables.watch.put i none }).setMonitors
    (s.monitors.put i .initial)).setWatchRt (s.watchRt.put i .initial)

/-- A signal entry stored or erased: its runtime takes the ride-start values (R38, R54), and a role value
of ABS_REGULATING that becomes 0 ends that condition (R88). -/
def replaceSignal (i : Fin 64) (x : Option SignalEntry) (s : State) : State :=
  let before := roleValue s .absRegulating
  let s := (s.setTables { s.tables with signals := s.tables.signals.put i x }).setSignalRt
    (s.signalRt.put i .initial)
  regulatingUpdate before (roleValue s .absRegulating) s

/-- A vote rule stored or erased: its timer becomes IDLE (R57, R66). -/
def replaceVote (k : Fin 4) (x : Option VoteRule) (s : State) : State :=
  (s.setTables { s.tables with votes := s.tables.votes.put k x }).setVoteTimers
    (s.voteTimers.put k none)

/-- A fault definition stored or erased: its runtime takes the reset values (R97, R109). -/
def replaceFault (f : Fin 64) (x : Option FaultDef) (s : State) : State :=
  (s.setTables { s.tables with faults := s.tables.faults.put f x }).setFaultRt
    (s.faultRt.put f .initial)

/-- The settings replaced. -/
def replaceSettings (e : Settings) (s : State) : State := s.setTables { s.tables with settings := e }

/-! ### STORE ENTRY, ERASE ENTRY, FETCH ENTRY -/

/-- The image of a table's entries is this long (section 12.4). -/
def imageLength : TableName → Nat
  | .watch => 17 | .signal => 17 | .vote => 11 | .fault => 20 | .settings => 24

/-- The buffer's bytes at the image's positions. -/
def bufferImage (s : State) (t : TableName) : List Byte :=
  Mem.bytes bufferFill s.mgmt.buffer 0 (imageLength t)

/-- The outcome of a STORE ENTRY: the reason it is refused for, or the state with the entry stored and
the response's data. -/
def storeOutcome {α : Type} (decoded : Option α) (reason : α → Option Reason)
    (put : α → State → State) (s : State) : Reason ⊕ (State × List Byte) :=
  match decoded with
  | none => .inl .range
  | some e =>
    match reason e with
    | some r => .inl r
    | none => .inr (put e s, [])

/-- STORE ENTRY's checks and effect on the tables (R175, R176, R177). -/
def storeEntryOutcome (entry : EntryRef) (s : State) : Reason ⊕ (State × List Byte) :=
  let image := bufferImage s entry.table
  match entry with
  | .watch i => storeOutcome (WatchEntry.ofImage image) (watchReason s i) (storeWatch i) s
  | .signal i =>
    storeOutcome (SignalEntry.ofImage image) (signalReason s i) (fun e => replaceSignal i (some e)) s
  | .vote k => storeOutcome (VoteRule.ofImage image) voteReason (fun e => replaceVote k (some e)) s
  | .fault f =>
    storeOutcome (FaultDef.ofImage image) (faultReason s f) (fun e => replaceFault f (some e)) s
  | .settings =>
    match Settings.ofImage image with
    | none => .inl .range
    | some e => .inr (replaceSettings e.clamped s, [byteOf e.clampCount])

/-- ERASE ENTRY's effect on the tables (R179). -/
def eraseEntryAt (entry : EntryRef) (s : State) : State :=
  match entry with
  | .watch i => eraseWatch i s
  | .signal i => replaceSignal i none s
  | .vote k => replaceVote k none s
  | .fault f => replaceFault f none s
  | .settings => replaceSettings Settings.default s

/-- The image of an entry as FETCH ENTRY writes it, none where it is EMPTY (R178). -/
def entryImage (t : Tables) : EntryRef → Option (List Byte)
  | .watch i => (t.watch.at i).map WatchEntry.image
  | .signal i => (t.signals.at i).map SignalEntry.image
  | .vote k => (t.votes.at k).map VoteRule.image
  | .fault f => (t.faults.at f).map FaultDef.image
  | .settings => some t.settings.image

/-- The transfer buffer replaced whole by an image from position 0, zeros after it (R171). -/
def fillBuffer (image : List Byte) (s : State) : State :=
  s.setMgmt { s.mgmt with buffer := Mem.ofBytes bufferFill 0 image }

/-! ### The checks of a commit (R180) -/

/-- A failed commit check: the reason, the table and the index reported. -/
structure CommitFailure where
  reason : Reason
  table : TableName
  index : Byte
  deriving DecidableEq, Repr

/-- The first failure among the entries of a table, ascending. -/
def firstFailure {α : Type} {n : Nat} (t : Table (Option α) n)
    (check : Fin n → α → Option CommitFailure) : Option CommitFailure :=
  (List.finRange n).findSome? fun i =>
    match t.at i with
    | none => none
    | some e => check i e

/-- The number of non-empty signals that name a watch entry. -/
def signalCount (t : Tables) (w : Fin 32) : Nat :=
  ((List.finRange 64).filter fun i =>
    match t.signals.at i with
    | none => false
    | some e => e.watch == w).length

/-- The checks of one signal. -/
def commitSignal (t : Tables) (i : Fin 64) (e : SignalEntry) : Option CommitFailure :=
  match t.watch.at e.watch with
  | none => some ⟨.reference, .signal, byteOf i.val⟩
  | some w =>
    if 8 * w.expectedLength < e.startBit + e.length then some ⟨.fieldPosition, .signal, byteOf i.val⟩
    else if 8 < signalCount t e.watch then some ⟨.signalCount, .signal, byteOf i.val⟩
    else none

/-- Some non-empty signal holds a role. -/
def holdsRole (t : Tables) (role : Role) : Bool :=
  (List.finRange 64).any fun i =>
    match t.signals.at i with
    | none => false
    | some e => e.role == role

/-- The checks of the roles. -/
def commitRoles (t : Tables) : Option CommitFailure :=
  if holdsRole t .engineState && holdsRole t .vehicleSpeed then none
  else some ⟨.roleMissing, .signal, 0xFF⟩

/-- The checks of one vote rule. -/
def commitVote (t : Tables) (k : Fin 4) (e : VoteRule) : Option CommitFailure :=
  let named (i : Fin 64) : Bool := (t.signals.at i).isSome
  if named e.memberA && named e.memberB && (match e.memberC with | none => true | some c => named c)
  then none else some ⟨.reference, .vote, byteOf k.val⟩

/-- The entry a source names is non-empty; PORT_DOWN and STORE_LOST name none. -/
def sourceNamed (t : Tables) : Source → Bool
  | .frame _ w => (t.watch.at w).isSome
  | .signal _ i => (t.signals.at i).isSome
  | .vote _ k => (t.votes.at k).isSome
  | .portDown _ => true
  | .storeLost => true

/-- The checks of one fault definition. -/
def commitFault (t : Tables) (f : Fin 64) (e : FaultDef) : Option CommitFailure :=
  if sourceNamed t e.source && e.capture.all (fun i => (t.signals.at i).isSome) then
    if e.agingRides ≠ 0 ∧ e.agingRides < e.lampOffRides then
      some ⟨.aging, .fault, byteOf (f.val + 1)⟩
    else none
  else some ⟨.reference, .fault, byteOf (f.val + 1)⟩

/-- The commit checks in the order of R180: the first failure, if any. -/
def commitCheck (t : Tables) : Option CommitFailure :=
  match firstFailure t.signals (commitSignal t) with
  | some x => some x
  | none =>
    match commitRoles t with
    | some x => some x
    | none =>
      match firstFailure t.votes (commitVote t) with
      | some x => some x
      | none => firstFailure t.faults (commitFault t)

end Sys2Proof.Machine
end

