-- ==== Sys2Proof/Machine/Requests.lean ====
section
/-!
DEFINITION. The Management Engine (chapter 10): the inbox, the decoding and every request.
-/

namespace Sys2Proof.Machine

/-- A flag's byte. -/
def flagByte (b : Bool) : Byte := if b then 1 else 0

/-! ### Readings -/

/-- STATUS (R174). -/
def doStatus (s : State) : State :=
  respond 0x10 .ok
    ([byteOf s.ride.state.code, byteOf s.ride.band.code] ++ le16 s.ride.rideNumber
      ++ [byteOf s.memory.records.length]) s

/-- The data of READ FAULT (R110). -/
def faultReading (s : State) (f : Fin 64) : List Byte :=
  let record := byteOf (statusCode (recordOf s f))
  match s.tables.faults.at f with
  | none => [0, 0, 0, 0, record]
  | some _ =>
    let rt := s.faultRt.at f
    [1, byteOf (twos8 rt.counter), byteOf rt.verdict.code, flagByte rt.failed, record]

/-- READ FAULT (R110). -/
def doReadFault (f : Fin 64) (s : State) : State := respond 0x11 .ok (faultReading s f) s

/-- READ SIGNAL (R52). -/
def doReadSignal (i : Fin 64) (s : State) : State :=
  match s.tables.signals.at i with
  | none => respond 0x12 .empty [] s
  | some _ =>
    respond 0x12 .ok
      (le16 (twos16 (signalValue s i))
        ++ [flagByte (signalValid s i), byteOf (signalFreshness s i).code]) s

/-- The monitor state's code: ABSENT 0, IDLE 1, RUNNING 2 (section 12.1). -/
def monitorStateCode (e : WatchEntry) (m : Monitor) : Nat :=
  if e.deadline = 0 then 0 else if m.running then 2 else 1

/-- The data of PEEK MONITOR for a non-empty entry (R34, section 12.2). -/
def monitorReading (s : State) (w : Fin 32) (e : WatchEntry) : List Byte :=
  let m := s.monitors.at w
  let remaining := if e.deadline = 0 then 0 else m.remaining
  let arrivals := if e.deadline = 0 then 0 else m.arrivals
  [byteOf (e.mode.code + 4 * monitorStateCode e m + 16 * (s.watchRt.at w).freshness.code
      + 64 * (remaining / 65536))]
    ++ le16 remaining ++ [byteOf arrivals]

/-- PEEK MONITOR (R34). -/
def doPeekMonitor (w : Fin 32) (s : State) : State :=
  match s.tables.watch.at w with
  | none => respond 0x13 .empty [] s
  | some e => respond 0x13 .ok (monitorReading s w e) s

/-- FETCH RECORD (R135). -/
def doFetchRecord (k : Nat) (s : State) : State :=
  match s.memory.records[k]? with
  | none => respond 0x14 .empty [] s
  | some r =>
    respond 0x14 .ok [byteOf (r.fault.val + 1), byteOf r.status.code, byteOf r.image.length]
      (fillBuffer r.image s)

/-! ### The transfer buffer (R171) -/

/-- A buffer position as READ BUFFER reads it: 0 beyond position 31. -/
def bufferByte (s : State) (p : Nat) : Byte :=
  if p < 32 then Mem.read bufferFill s.mgmt.buffer p else 0

/-- READ BUFFER. -/
def doReadBuffer (o : Nat) (s : State) : State :=
  respond 0x20 .ok ((List.range 5).map fun k => bufferByte s (o + k)) s

/-- WRITE BUFFER. -/
def doWriteBuffer (o : Nat) (data : List Byte) (s : State) : State :=
  respond 0x21 .ok []
    (s.setMgmt { s.mgmt with buffer := Mem.writeBytes bufferFill s.mgmt.buffer o data })

/-! ### Records, mask and CONFIGURE -/

/-- CLEAR RECORDS (R130): the counts are those the request finds. -/
def doClearRecords (mask : GroupMask) (s : State) : State :=
  respond 0x30 .ok
    [byteOf (s.memory.records.filter (clearsRecord mask s)).length,
     byteOf (s.memory.records.filter (keepsRecord mask s)).length]
    (removeRecords (clearsRecord mask s) s)

/-- SET NOTICE MASK (R172). -/
def doSetNoticeMask (level : Nat) (enables : GroupMask) (s : State) : State :=
  respond 0x31 .ok [] (s.setTx { s.tx with noticeLevel := level, enables := enables })

/-- ENTER CONFIGURE, decoded in KEY_ON (R173). -/
def doEnterConfigure (s : State) : State :=
  if roleValue s .vehicleSpeed = 0 then respond 0x40 .ok [] (enterConfigure s)
  else respond 0x40 .refused [] s

/-- The data of a BAD_ENTRY (section 12.2). -/
def badEntryData (r : Reason) (t : TableName) (index : Byte) : List Byte :=
  [byteOf r.code, byteOf t.code, index]

/-- A LEAVE CONFIGURE whose work takes time begins it: the inbox becomes WORKING. -/
def beginWork (w : Work) (s : State) : State := s.setMgmt { s.mgmt with inbox := .working w }

/-- LEAVE CONFIGURE with commit (R180, R181): the checks, the cleanup, the TABLES write. -/
def doCommit (s : State) : State :=
  match commitCheck s.tables with
  | some x => respond 0x41 .badEntry (badEntryData x.reason x.table x.index) s
  | none =>
    let removed := (s.memory.records.filter (orphanRecord s)).length
    beginTablesWrite (removeRecords (orphanRecord s) (beginWork (.commit removed) s))

/-- LEAVE CONFIGURE without commit (R182): the reload begins. -/
def doAbandon (s : State) : State := beginOp .reload (beginWork .abandon s)

/-- LEAVE CONFIGURE. -/
def doLeaveConfigure (commit : Bool) (s : State) : State := if commit then doCommit s else doAbandon s

/-! ### Entries (R175, R178, R179) -/

/-- STORE ENTRY. -/
def doStoreEntry (entry : EntryRef) (s : State) : State :=
  match storeEntryOutcome entry s with
  | .inl r => respond 0x50 .badEntry (badEntryData r entry.table (byteOf entry.index)) s
  | .inr (s', data) => respond 0x50 .ok data s'

/-- FETCH ENTRY. -/
def doFetchEntry (entry : EntryRef) (s : State) : State :=
  match entryImage s.tables entry with
  | none => respond 0x51 .empty [] s
  | some image => respond 0x51 .ok [byteOf image.length] (fillBuffer image s)

/-- ERASE ENTRY. -/
def doEraseEntry (entry : EntryRef) (s : State) : State := respond 0x52 .ok [] (eraseEntryAt entry s)

/-! ### Decoding (R169) -/

/-- A request carried out (R169 step 5). -/
def carryOut (r : Request) (s : State) : State :=
  match r with
  | .status => doStatus s
  | .readFault f => doReadFault f s
  | .readSignal i => doReadSignal i s
  | .peekMonitor w => doPeekMonitor w s
  | .fetchRecord k => doFetchRecord k s
  | .readBuffer o => doReadBuffer o s
  | .writeBuffer o data => doWriteBuffer o data s
  | .clearRecords mask => doClearRecords mask s
  | .setNoticeMask level enables => doSetNoticeMask level enables s
  | .enterConfigure => doEnterConfigure s
  | .leaveConfigure commit => doLeaveConfigure commit s
  | .storeEntry e => doStoreEntry e s
  | .fetchEntry e => doFetchEntry e s
  | .eraseEntry e => doEraseEntry e s

/-- A frame with a code byte decoded by the first step of R169 that decides it. -/
def decodeCode (c : Byte) (args : List Byte) (s : State) : State :=
  if s.ride.state = .closing then respond c .refused [] s
  else
    match RequestName.ofCode c with
    | none => respond c .unknown [] s
    | some name =>
      if name.permitted s.ride.state then
        match requestOf name args with
        | none => respond c .badArgument [] s
        | some r => carryOut r s
      else respond c .refused [] s

/-- A frame of length 0 decoded: it carries no code, so the code its response echoes is a free value
(R169, R192; log 9). -/
def decodeNoCode (s : State) : State :=
  respond (Config.echoOfNoCode s.freeUses) (if s.ride.state = .closing then .refused else .unknown) []
    (s.setFreeUses (s.freeUses + 1))

/-- A request frame decoded. -/
def decodeRequest (payload : List Byte) (s : State) : State :=
  match payload with
  | [] => decodeNoCode s
  | c :: args => decodeCode c args s

/-- The Engine takes a request frame: the cluster port receives it, the ride state answers requests and
the inbox is EMPTY (R168, R152). -/
def takesRequest (s : State) : Bool :=
  s.tx.offline.isNone && s.ride.state != .asleep && s.ride.state != .settling && s.mgmt.inbox == .empty

/-- A request frame taken and decoded, one event. -/
def takeRequest (payload : List Byte) (s : State) : State := runSelector (decodeRequest payload s)

/-- A request frame arrives on the request identifier; a discarded one changes nothing (R168). A payload
of more than 8 bytes is no frame (log 14). -/
def requestArrives (payload : List Byte) (s : State) : Host.Outcome State Fault Refusal :=
  if fitsFrame payload then eventWhen (takesRequest s = true) (takeRequest payload) s
  else .refused .notAFrame

/-! ### The commands -/

/-- R168: a request frame arrives where it is discarded. -/
def execRequestDiscarded (payload : List Byte) (s : State) : Host.Outcome State Fault Refusal :=
  requestArrives payload s

/-- R169: a request frame arrives whose code names no request, or of length 0. -/
def execUnknown (payload : List Byte) (s : State) : Host.Outcome State Fault Refusal :=
  requestArrives payload s

/-- R174. -/
def execStatus (args : List Byte) (s : State) : Host.Outcome State Fault Refusal :=
  requestArrives (0x10 :: args) s

/-- R110. -/
def execReadFault (args : List Byte) (s : State) : Host.Outcome State Fault Refusal :=
  requestArrives (0x11 :: args) s

/-- R52. -/
def execReadSignal (args : List Byte) (s : State) : Host.Outcome State Fault Refusal :=
  requestArrives (0x12 :: args) s

/-- R34. -/
def execPeekMonitor (args : List Byte) (s : State) : Host.Outcome State Fault Refusal :=
  requestArrives (0x13 :: args) s

/-- R135. -/
def execFetchRecord (args : List Byte) (s : State) : Host.Outcome State Fault Refusal :=
  requestArrives (0x14 :: args) s

/-- R171. -/
def execReadBuffer (args : List Byte) (s : State) : Host.Outcome State Fault Refusal :=
  requestArrives (0x20 :: args) s

/-- R171. -/
def execWriteBuffer (args : List Byte) (s : State) : Host.Outcome State Fault Refusal :=
  requestArrives (0x21 :: args) s

/-- R130. -/
def execClearRecords (args : List Byte) (s : State) : Host.Outcome State Fault Refusal :=
  requestArrives (0x30 :: args) s

/-- R172. -/
def execSetNoticeMask (args : List Byte) (s : State) : Host.Outcome State Fault Refusal :=
  requestArrives (0x31 :: args) s

/-- R173. -/
def execEnterConfigure (args : List Byte) (s : State) : Host.Outcome State Fault Refusal :=
  requestArrives (0x40 :: args) s

/-- R180: LEAVE CONFIGURE; the commit flag is read from the argument byte (log 15). -/
def execLeaveConfigureCommit (args : List Byte) (s : State) : Host.Outcome State Fault Refusal :=
  requestArrives (0x41 :: args) s

/-- R182: LEAVE CONFIGURE; the commit flag is read from the argument byte (log 15). -/
def execLeaveConfigureAbandon (args : List Byte) (s : State) : Host.Outcome State Fault Refusal :=
  requestArrives (0x41 :: args) s

/-- R175. -/
def execStoreEntry (args : List Byte) (s : State) : Host.Outcome State Fault Refusal :=
  requestArrives (0x50 :: args) s

/-- R178. -/
def execFetchEntry (args : List Byte) (s : State) : Host.Outcome State Fault Refusal :=
  requestArrives (0x51 :: args) s

/-- R179. -/
def execEraseEntry (args : List Byte) (s : State) : Host.Outcome State Fault Refusal :=
  requestArrives (0x52 :: args) s

end Sys2Proof.Machine
end

