-- ==== Sys2Proof/Machine/Dispatch.lean ====
section
/-! DEFINITION. The meaning of each command, one arm per constructor. -/

namespace Sys2Proof.Machine

def exec (i : Instr) (s : State) : Host.Outcome State Fault Refusal :=
  match i with
  | .errorFreeFrame id payload => Sys2Proof.Machine.execErrorFreeFrame id payload s
  | .busError => Sys2Proof.Machine.execBusError s
  | .silenceTimerExpiry => Sys2Proof.Machine.execSilenceTimerExpiry s
  | .monitorExpiry entry => Sys2Proof.Machine.execMonitorExpiry entry s
  | .periodExpiry entry => Sys2Proof.Machine.execPeriodExpiry entry s
  | .voteExpiry rule => Sys2Proof.Machine.execVoteExpiry rule s
  | .ignFilterChange level => Sys2Proof.Machine.execIgnFilterChange level s
  | .supplyBandChange sample => Sys2Proof.Machine.execSupplyBandChange sample s
  | .powerOnReset => Sys2Proof.Machine.execPowerOnReset s
  | .loadCompletion => Sys2Proof.Machine.execLoadCompletion s
  | .memoryWriteCompletion => Sys2Proof.Machine.execMemoryWriteCompletion s
  | .tablesWriteCompletion => Sys2Proof.Machine.execTablesWriteCompletion s
  | .reloadCompletion => Sys2Proof.Machine.execReloadCompletion s
  | .tailTimerExpiry cls => Sys2Proof.Machine.execTailTimerExpiry cls s
  | .ignitionTimerExpiry => Sys2Proof.Machine.execIgnitionTimerExpiry s
  | .proveOutTimerExpiry => Sys2Proof.Machine.execProveOutTimerExpiry s
  | .stretchTimerExpiry lamp => Sys2Proof.Machine.execStretchTimerExpiry lamp s
  | .flashPhaseExpiry lamp => Sys2Proof.Machine.execFlashPhaseExpiry lamp s
  | .attemptSuccess => Sys2Proof.Machine.execAttemptSuccess s
  | .attemptFailure => Sys2Proof.Machine.execAttemptFailure s
  | .lostArbitration => Sys2Proof.Machine.execLostArbitration s
  | .offlineTimerExpiry => Sys2Proof.Machine.execOfflineTimerExpiry s
  | .beaconTimerExpiry => Sys2Proof.Machine.execBeaconTimerExpiry s
  | .requestDiscarded payload => Sys2Proof.Machine.execRequestDiscarded payload s
  | .unknown payload => Sys2Proof.Machine.execUnknown payload s
  | .status args => Sys2Proof.Machine.execStatus args s
  | .readFault args => Sys2Proof.Machine.execReadFault args s
  | .readSignal args => Sys2Proof.Machine.execReadSignal args s
  | .peekMonitor args => Sys2Proof.Machine.execPeekMonitor args s
  | .fetchRecord args => Sys2Proof.Machine.execFetchRecord args s
  | .readBuffer args => Sys2Proof.Machine.execReadBuffer args s
  | .writeBuffer args => Sys2Proof.Machine.execWriteBuffer args s
  | .clearRecords args => Sys2Proof.Machine.execClearRecords args s
  | .setNoticeMask args => Sys2Proof.Machine.execSetNoticeMask args s
  | .enterConfigure args => Sys2Proof.Machine.execEnterConfigure args s
  | .leaveConfigureCommit args => Sys2Proof.Machine.execLeaveConfigureCommit args s
  | .leaveConfigureAbandon args => Sys2Proof.Machine.execLeaveConfigureAbandon args s
  | .storeEntry args => Sys2Proof.Machine.execStoreEntry args s
  | .fetchEntry args => Sys2Proof.Machine.execFetchEntry args s
  | .eraseEntry args => Sys2Proof.Machine.execEraseEntry args s
  | .leavePowerOnReset id0 id1 => Sys2Proof.Machine.execLeavePowerOnReset id0 id1 s

end Sys2Proof.Machine
end

