-- ==== Sys2Proof/Machine/Tick.lean ====
section
/-!
DEFINITION. The 1 ms tick (section 0.8), which a step on an empty queue takes: every timer that runs counts
by 1, and the expiries that the tick brings due are put into the queue of commands (DESIGN CHOICE, log 2;
unsafe: which of several expiries of one tick goes first is the model's choice).
-/

namespace Sys2Proof.Machine

/-! ### What one tick counts -/

/-- The count of the IGN filter (R69). -/
def tickIgnCount (pins : Pins) (r : RideController) : Nat :=
  if pins.ign = r.ign then 0 else min (r.ignCount + 1) 20

/-- A class's timer falls by 1. -/
def BlankingClass.tick (c : BlankingClass) : BlankingClass := { c with timer := countDown c.timer }

/-- The tail timers and the IGNITION timer (R84, R85). -/
def Classes.tick (c : Classes) : Classes :=
  { ignition := c.ignition.tick, crank := c.crank.tick, lowSupply := c.lowSupply.tick,
    absActive := c.absActive.tick, portDown := c.portDown.tick }

/-- The run time rises in RUNNING up to the qualify run time (R77). -/
def tickRunTime (s : State) : Nat :=
  if s.ride.state = .running ∧ s.ride.runTime < s.tables.settings.qualifyRun * 1000 then
    s.ride.runTime + 1
  else s.ride.runTime

/-- The ride clock counts in the running states and CONFIGURE, in every band (R79). -/
def tickClock (r : RideController) : Nat :=
  if r.state.isRunning || r.state == .configure then r.clockTicks + 1 else r.clockTicks

/-- A monitor counts (R24): the remaining time falls, in WINDOW mode the elapsed time rises. -/
def Monitor.tick (mode : MonitorMode) (m : Monitor) : Monitor :=
  if m.running then
    { m with
      remaining := m.remaining - 1,
      previous := if mode = .window then m.previous.map (fun n => min (n + 1) 65535) else m.previous }
  else m

/-- The monitors count. -/
def tickMonitors (s : State) : Table Monitor 32 :=
  Table.build fun w =>
    match timedEntry s.tables w with
    | none => s.monitors.at w
    | some e => (s.monitors.at w).tick e.mode

/-- A lamp's stretch and flash half-cycle (R145, R146). -/
def LampState.tick (l : LampState) : LampState :=
  { l with stretch := countDown l.stretch, phase := l.phase.map fun ph => ⟨ph.on, ph.remaining - 1⟩ }

/-- The lamps' timers. -/
def LampDriver.tick (d : LampDriver) : LampDriver :=
  { engine := d.engine.tick, abs := d.abs.tick, proveTimer := countDown d.proveTimer }

/-- The timers that hold in DEEP (R81). -/
def tickHeldTimers (s : State) : State :=
  if s.ride.band = .deep then s
  else
    (((((s.setChassis { s.chassis with silence := countDown s.chassis.silence }).setMonitors
      (tickMonitors s)).setVoteTimers (Table.build fun k => countDown (s.voteTimers.at k))).setLamps
      s.lamps.tick).setRide
      { s.ride with classes := s.ride.classes.tick, runTime := tickRunTime s })

/-- The store operation in progress has lasted a tick longer. -/
def StoreOp.tick (op : StoreOp) : StoreOp := { op with ticks := op.ticks + 1 }

/-- The timers that run in every band (R69, R79, R152, R162, R186). -/
def tickFreeTimers (s : State) : State :=
  ((s.setTx { s.tx with
      offline := countDown s.tx.offline, beaconTimer := countDown s.tx.beaconTimer }).setStore
    { s.store with op := s.store.op.map StoreOp.tick }).setRide
    { s.ride with ignCount := tickIgnCount s.pins s.ride, clockTicks := tickClock s.ride }

/-! ### What is due -/

/-- A command, if a condition holds. -/
def dueIf (c : Bool) (i : Instr) : List Instr := if c then [i] else []

/-- A monitor's expiry command, by its entry's mode. -/
def monitorExpiryOf (t : Tables) (w : Fin 32) : Instr :=
  match timedEntry t w with
  | none => .monitorExpiry w
  | some e => if e.mode = .period then .periodExpiry w else .monitorExpiry w

/-- The completion command of a store operation. -/
def StoreWork.completion : StoreWork → Instr
  | .load => .loadCompletion
  | .memoryWrite => .memoryWriteCompletion
  | .tablesWrite => .tablesWriteCompletion
  | .reload => .reloadCompletion

/-- A store operation that has lasted its bound completes (R186, R189, R190). -/
def storeDue (s : State) : List Instr :=
  match s.store.op with
  | none => []
  | some op => dueIf (decide (op.work.bound ≤ op.ticks)) op.work.completion

/-- The commands due at the end of a tick, in the model's order (log 2). -/
def dueCommands (s : State) : List Instr :=
  dueIf (s.ride.ignCount == 20) (.ignFilterChange s.pins.ign)
    ++ dueIf (nextBand s.pins.vsense s.ride.band != s.ride.band) (.supplyBandChange s.pins.vsense)
    ++ dueIf (silenceDue s) .silenceTimerExpiry
    ++ (List.finRange 32).flatMap (fun w => dueIf (monitorDue s w) (monitorExpiryOf s.tables w))
    ++ (List.finRange 4).flatMap (fun k => dueIf (voteDue s k) (.voteExpiry k))
    ++ [TailClass.crank, .lowSupply, .absActive, .portDown].flatMap
        (fun c => dueIf (tailDue s c) (.tailTimerExpiry c))
    ++ dueIf (ignitionDue s) .ignitionTimerExpiry
    ++ dueIf (proveOutDue s) .proveOutTimerExpiry
    ++ [Lamp.engine, .abs].flatMap (fun l => dueIf (stretchDue s l) (.stretchTimerExpiry l))
    ++ [Lamp.engine, .abs].flatMap (fun l => dueIf (flashDue s l) (.flashPhaseExpiry l))
    ++ dueIf (s.tx.offline == some 0) .offlineTimerExpiry
    ++ dueIf (s.tx.beaconTimer == some 0) .beaconTimerExpiry
    ++ storeDue s

/-- What a tick counts. -/
def tickTimers (s : State) : State := tickFreeTimers (tickHeldTimers s)

/-- One tick; in power-on reset nothing counts (R82). -/
def tick (s : State) : State :=
  if s.inReset then s
  else
    let s := tickTimers s
    s.setPending (s.pending ++ dueCommands s)

end Sys2Proof.Machine
end

