-- ==== Sys2Proof/Safety.lean ====
section
/-!
DEFINITION. The invariants of the part, in the terms the statements use. Each is a decidable reading of a state;
none is assumed of a state by any meaning.
-/

namespace Sys2Proof.Machine

/-- Every index of a table satisfies `p`. -/
def everyIndex (n : Nat) (p : Fin n → Bool) : Bool := (List.finRange n).all p

/-- An optional item satisfies `p` where it is present. -/
def wherePresent {α : Type} (p : α → Bool) : Option α → Bool
  | none => true
  | some x => p x

/-! ### Frames of change -/

/-- Two transmitters differ at most in the attempt. -/
structure AttemptOnly (t u : Transmitter) : Prop where
  response : u.response = t.response
  notices : u.notices = t.notices
  slots : u.slots = t.slots
  queue : u.queue = t.queue
  beaconDue : u.beaconDue = t.beaconDue
  beaconTimer : u.beaconTimer = t.beaconTimer
  beaconPeriod : u.beaconPeriod = t.beaconPeriod
  noticeLevel : u.noticeLevel = t.noticeLevel
  enables : u.enables = t.enables
  errorCount : u.errorCount = t.errorCount
  offline : u.offline = t.offline

/-- What a sample can do: it may change fault runtimes, records, lamps, notices and the attempt, and nothing
else. -/
structure SampleFrame (s t : State) : Prop where
  pending : t.pending = s.pending
  inReset : t.inReset = s.inReset
  pins : t.pins = s.pins
  strap : t.strap = s.strap
  tables : t.tables = s.tables
  chassis : t.chassis = s.chassis
  watchRt : t.watchRt = s.watchRt
  monitors : t.monitors = s.monitors
  signalRt : t.signalRt = s.signalRt
  voteTimers : t.voteTimers = s.voteTimers
  ride : t.ride = s.ride
  mgmt : t.mgmt = s.mgmt
  store : t.store = s.store
  freeUses : t.freeUses = s.freeUses
  response : t.tx.response = s.tx.response
  slots : t.tx.slots = s.tx.slots
  queue : t.tx.queue = s.tx.queue
  beaconDue : t.tx.beaconDue = s.tx.beaconDue
  beaconTimer : t.tx.beaconTimer = s.tx.beaconTimer
  beaconPeriod : t.tx.beaconPeriod = s.tx.beaconPeriod
  noticeLevel : t.tx.noticeLevel = s.tx.noticeLevel
  enables : t.tx.enables = s.tx.enables
  errorCount : t.tx.errorCount = s.tx.errorCount
  offline : t.tx.offline = s.tx.offline

/-! ### Rides begun and closed (R72, R75, R76) -/

/-- What the forwarding slots and the queue leave of an attempt when they are emptied: one of their frames is
gone (R151, R156; log 16). -/
def emptiedItem (i : Item) : Item := if i.isForwarded then .gone else i

/-- Steps 1 to 4 of ride start (R72) under the tables and records of `s` lead to `u`. -/
structure RideBegun (s u : State) : Prop where
  frame : u = { s with
    chassis := u.chassis, watchRt := u.watchRt, monitors := u.monitors, signalRt := u.signalRt,
    voteTimers := u.voteTimers, faultRt := u.faultRt, memory := u.memory, lamps := u.lamps,
    ride := u.ride, tx := u.tx }
  /-- step 1: the runtime of every block (R7, R10, R35, R38, R57, R97, R116) -/
  chassis : u.chassis = { s.chassis with silence := some s.tables.settings.silenceTime }
  watchRt : ∀ w, u.watchRt.at w = ⟨.never, none, none⟩
  signalRt : ∀ i, u.signalRt.at i = ⟨none, none, 0⟩
  faultRt : ∀ f, u.faultRt.at f = ⟨0, .untested, false⟩
  memory : u.memory = { s.memory with full := false }
  /-- step 2: KEY_ON, its gates opening (R21, R22, R58) -/
  monitors : ∀ w, u.monitors.at w = match timedEntry s.tables w with
    | none => ⟨false, 0, 0, none⟩
    | some e =>
      if e.gate = .running then ⟨false, 0, 0, none⟩
      else ⟨true, e.deadline + e.startAllowance, 0, none⟩
  voteTimers : ∀ k, u.voteTimers.at k = match s.tables.votes.at k with
    | none => none
    | some r => if r.gate = .running then none else some r.period
  /-- steps 1 to 3: clock, qualification and classes (R77, R79, R84, R85) -/
  ride : u.ride = { s.ride with
    state := .keyOn, clockTicks := 0, runTime := 0, speedReached := false,
    classes :=
      { ignition :=
          if s.tables.settings.ignitionBlanking = 0 then ⟨false, none⟩
          else ⟨true, some s.tables.settings.ignitionBlanking⟩
        crank := ⟨false, none⟩
        lowSupply := ⟨decide (s.ride.band ≠ .normal), none⟩
        absActive := ⟨false, none⟩
        portDown := ⟨decide (s.chassis.condition = .down), none⟩ } }
  /-- step 3: prove-out, over the requests of the CONFIRMED records (R138, R141, R142, R145) -/
  proveOut : u.lamps.proveTimer = some s.tables.settings.proveOutTime
  lamps : ∀ l, (u.lamps.get l).proveOut = true ∧ (u.lamps.get l).displayed = .steady ∧
    (u.lamps.get l).phase = none ∧ (u.lamps.get l).stretched = none ∧
    (u.lamps.get l).stretch =
      if (u.lamps.get l).request = .off ∨ s.tables.settings.lampStretch = 0 then none
      else some s.tables.settings.lampStretch
  noFlash : ∀ l, (u.lamps.get l).request ≠ .flash
  engineRequest : u.lamps.engine.request = .steady ↔
    ∃ r ∈ s.memory.records, r.status = .confirmed ∧
      ∃ d, s.tables.faults.at r.fault = some d ∧ (d.lamp = .engineSteady ∨ d.lamp = .engineFlash)
  absRequest : u.lamps.abs.request = .steady ↔
    ∃ r ∈ s.memory.records, r.status = .confirmed ∧
      ∃ d, s.tables.faults.at r.fault = some d ∧ d.lamp = .abs
  /-- steps 1 and 4: the transmitter (R151, R156, R157, R160, R162) -/
  tx : u.tx = { s.tx with
    slots := Table.fill 32 none, queue := [], beaconDue := false,
    beaconTimer :=
      if s.tables.settings.beaconPeriod = 0 then none else some s.tables.settings.beaconPeriod,
    beaconPeriod := s.tables.settings.beaconPeriod, noticeLevel := s.tables.settings.noticeLevel,
    enables := s.tables.settings.noticeEnables, notices := u.tx.notices, attempt := u.tx.attempt }
  notices : ∀ f, u.tx.notices.at f =
    (s.tx.notices.at f || s.memory.records.any fun r => r.fault == f)
  attempt : s.tx.attempt = none ∧ u.tx.attempt = none ∨
    ∃ a r, s.tx.attempt = some a ∧ u.tx.attempt = some ⟨a.frame, emptiedItem a.item, r⟩

/-- Ride start (R72): its steps 1 to 4, then the samples of steps 5 and 6, the STORE_LOST sample and a fail
sample for each port that is down. -/
def RideStarted (s t : State) : Prop :=
  ∃ u, RideBegun s u ∧ t = takeSamples
    ((.storeLost, if s.store.storeLost then .fail else .pass)
      :: ((if s.chassis.condition = .down then [(.portDown .chassis, .fail)] else [])
        ++ (if s.tx.offline = none then [] else [(.portDown .cluster, .fail)]))) u

/-- A ride closed as non-qualified with the filtered IGN level LOW (R75, R76): the MEMORY write begins where
the region is dirty, else the part is ASLEEP at once. -/
structure RideClosed (s t : State) : Prop where
  frame : t = { s with
    chassis := t.chassis, monitors := t.monitors, voteTimers := t.voteTimers, lamps := t.lamps,
    ride := t.ride, memory := t.memory, tx := t.tx, mgmt := t.mgmt, store := t.store }
  chassis : t.chassis = { s.chassis with silence := none }
  ride : t.ride = { s.ride with
    state := if s.memory.dirty then .closing else .asleep,
    hold := s.memory.dirty && s.ride.hold, classes := Classes.inactive }
  monitors : ∀ w, t.monitors.at w =
    if (timedEntry s.tables w).any (fun e => gateOpen e.gate s.ride.state) then
      { s.monitors.at w with running := false }
    else s.monitors.at w
  voteTimers : ∀ k, t.voteTimers.at k =
    if (s.tables.votes.at k).any (fun r => gateOpen r.gate s.ride.state) then none
    else s.voteTimers.at k
  proveOut : t.lamps.proveTimer = none
  lamps : ∀ l, t.lamps.get l = { s.lamps.get l with
    stretch := none, stretched := none, proveOut := false, displayed := .off, phase := none }
  slots : ∀ w, t.tx.slots.at w = none
  queue : t.tx.queue = []
  beacon : t.tx.beaconDue = false ∧ t.tx.beaconTimer = none
  mask : t.tx.noticeLevel = s.tx.noticeLevel ∧ t.tx.enables = s.tx.enables ∧
    t.tx.beaconPeriod = s.tx.beaconPeriod
  writing : s.memory.dirty = true →
    t.memory = s.memory ∧ t.mgmt = s.mgmt ∧
    t.store = { s.store with
      op := some ⟨.memoryWrite, 0⟩
      memory := regionBeginWrite memorySize (memoryContent s.ride.rideNumber s.memory.records)
        s.store.memory } ∧
    t.tx.response = s.tx.response ∧ t.tx.notices = s.tx.notices ∧ t.tx.errorCount = s.tx.errorCount ∧
    t.tx.offline = s.tx.offline ∧
    t.tx.attempt = s.tx.attempt.map fun a => { a with item := emptiedItem a.item }
  asleep : s.memory.dirty = false →
    t.memory = ⟨[], false, false⟩ ∧ t.mgmt = { s.mgmt with inbox := .empty } ∧ t.store = s.store ∧
    t.tx.response = none ∧ (∀ f, t.tx.notices.at f = false) ∧ t.tx.errorCount = 0 ∧ t.tx.offline = none ∧
    t.tx.attempt = s.tx.attempt.map fun a => { a with item := .gone }

/-! ### Loads (R184, R186 to R188) -/

/-- A load finds the TABLES region lost: it is not valid, or it holds a watch entry on a part identifier. -/
def tablesLost (s : State) : Prop :=
  regionValid tablesSize s.store.tables = false ∨
    holdsPartId s.strap (Tables.ofContent (regionContent tablesSize s.store.tables)) = true

/-- The tables and the UNCONFIGURED flag of `t` are those a load of the TABLES region of `s` gives; the
runtime of EMPTY entries is cleared (log 22). -/
structure TablesLoaded (s t : State) : Prop where
  lost : tablesLost s → t.tables = Tables.empty ∧ t.mgmt.unconfigured = true
  valid : ¬tablesLost s →
    t.tables = Tables.ofContent (regionContent tablesSize s.store.tables) ∧ t.mgmt.unconfigured = false
  mgmt : t.mgmt = { s.mgmt with unconfigured := t.mgmt.unconfigured }
  watchRt : ∀ w, t.watchRt.at w =
    if t.tables.watch.at w = none then ⟨.never, none, none⟩ else s.watchRt.at w
  monitors : ∀ w, t.monitors.at w =
    if timedEntry t.tables w = none then ⟨false, 0, 0, none⟩ else s.monitors.at w
  signalRt : ∀ i, t.signalRt.at i =
    if t.tables.signals.at i = none then ⟨none, none, 0⟩ else s.signalRt.at i
  voteTimers : ∀ k, t.voteTimers.at k = if t.tables.votes.at k = none then none else s.voteTimers.at k
  faultRt : ∀ f, t.faultRt.at f =
    if t.tables.faults.at f = none then ⟨0, .untested, false⟩ else s.faultRt.at f

/-! ### Readiness for requests (R168, R170) -/

/-- A request frame is taken, in a running state or CONFIGURE. -/
def requestsOpen (s : State) : Bool :=
  !s.inReset && takesRequest s && (s.ride.state.isRunning || s.ride.state == .configure)

/-- A request frame is taken in CONFIGURE. -/
def configuring (s : State) : Bool := !s.inReset && takesRequest s && s.ride.state == .configure

/-! ### Areas (R167, section 12.6) -/

/-- The transfer buffer and the two regions keep their canonical form. -/
def areasCanonical (s : State) : Bool :=
  Mem.wf bufferFill 32 s.mgmt.buffer && Mem.wf storeFill (tablesSize + 3) s.store.tables
    && Mem.wf storeFill (memorySize + 3) s.store.memory

/-! ### Values -/

/-- The tables hold only entries within their values (R8, R36, R55, R93, R177). -/
def tablesLegal (t : Tables) : Bool :=
  everyIndex 32 (fun w => wherePresent WatchEntry.legal (t.watch.at w))
    && everyIndex 64 (fun i => wherePresent SignalEntry.legal (t.signals.at i))
    && everyIndex 4 (fun k => wherePresent VoteRule.legal (t.votes.at k))
    && everyIndex 64 (fun f => wherePresent FaultDef.legal (t.faults.at f))
    && t.settings.clamped == t.settings

/-- The Chassis Port's count is 0..255 and below 128 while the port is LIVE (R3, R4). -/
def portInRange (c : ChassisPort) : Bool :=
  decide (c.errorCount ≤ 255) && (c.condition == .down || decide (c.errorCount < 128))

/-- A monitor's values (R20). -/
def monitorInRange (m : Monitor) : Bool :=
  decide (m.remaining ≤ 131070) && decide (m.arrivals ≤ 255)
    && wherePresent (fun n => decide (n ≤ 65535)) m.previous

/-- A signal's runtime values (R38). -/
def signalInRange (x : SignalRuntime) : Bool :=
  wherePresent isEngineering x.value && wherePresent isEngineering x.previous
    && decide (x.frozenRun ≤ 255)

/-- A fault's counter is -128..127 (R97). -/
def faultInRange (x : FaultRuntime) : Bool := decide (-128 ≤ x.counter) && decide (x.counter ≤ 127)

/-- A timer is IDLE or has at most `hi` left. -/
def timerWithin (hi : Nat) (t : Option Nat) : Bool := wherePresent (fun n => decide (n ≤ hi)) t

/-- The timers of the five classes (R84, R85, R177). -/
def classesInRange (c : Classes) : Bool :=
  timerWithin 10000 c.ignition.timer && timerWithin 10000 c.crank.timer
    && timerWithin 10000 c.lowSupply.timer && timerWithin 10000 c.absActive.timer
    && timerWithin 10000 c.portDown.timer

/-- A lamp's stretch timer and half-cycle (R138). -/
def lampInRange (l : LampState) : Bool :=
  timerWithin 5000 l.stretch && wherePresent (fun ph => decide (ph.remaining ≤ 250)) l.phase

/-- The timers of the blocks: chassis silence, votes, classes, lamps, OFFLINE and beacon, with the beacon
period in use (R5, R57, R84, R85, R138, R152, R162, R177). -/
def timersInRange (s : State) : Bool :=
  timerWithin 2000 s.chassis.silence && everyIndex 4 (fun k => timerWithin 1000 (s.voteTimers.at k))
    && classesInRange s.ride.classes
    && lampInRange s.lamps.engine && lampInRange s.lamps.abs && timerWithin 5000 s.lamps.proveTimer
    && timerWithin 100 s.tx.offline && timerWithin 5000 s.tx.beaconTimer
    && decide (s.tx.beaconPeriod ≤ 5000)

/-- The number of records that a commit at work has removed is 0..20 (R181). -/
def inboxInRange : Inbox → Bool
  | .working (.commit removed) => decide (removed ≤ 20)
  | .working .abandon => true
  | .empty => true
  | .answered => true

/-- The values of the registers of every block, and the tables' (R3, R4, R20, R38, R69, R77, R78, R97, R115,
R152, R156, R160, R181), and of every timer. The tick counts of the ride clock and of a store operation have
no greatest value. -/
def valuesInRange (s : State) : Bool :=
  tablesLegal s.tables && portInRange s.chassis && timersInRange s && inboxInRange s.mgmt.inbox
    && decide (s.ride.runTime ≤ 600000) && decide (s.tx.noticeLevel ≤ 4)
    && everyIndex 32 (fun w => monitorInRange (s.monitors.at w))
    && everyIndex 64 (fun i => signalInRange (s.signalRt.at i))
    && everyIndex 64 (fun f => faultInRange (s.faultRt.at f))
    && decide (s.ride.ignCount ≤ 20) && decide (s.ride.rideNumber ≤ 65535)
    && recordsLegal s.ride.rideNumber s.memory.records
    && decide (s.tx.errorCount ≤ 256) && decide (s.tx.queue.length ≤ 8)

/-! ### Frames (section 0.8, R193) -/

/-- A frame carries at most 8 bytes. -/
def frameFits (f : Frame) : Bool := decide (f.bytes.length ≤ 8)

/-- The attempt's frame fits; one of the part's own identifiers has length 8 exactly (R193). -/
def attemptFits (a : Attempt) : Bool :=
  frameFits a.frame
    && (match a.item with
      | .response => a.frame.bytes.length == 8
      | .notice _ => a.frame.bytes.length == 8
      | .beacon => a.frame.bytes.length == 8
      | .slot _ => true
      | .queueHead => true
      | .gone => true)

/-- Every frame the part holds or transmits fits a CAN frame. -/
def framesFit (s : State) : Bool :=
  everyIndex 32 (fun w => wherePresent frameFits (s.tx.slots.at w))
    && s.tx.queue.all frameFits
    && wherePresent attemptFits s.tx.attempt
    && wherePresent (fun r => decide (r.data.length ≤ 5)) s.tx.response
    && everyIndex 32 (fun w => wherePresent (fun b => decide (b.length ≤ 8)) (s.watchRt.at w).lastGood)

/-! ### Gates and the store (R21 to R23, R58, R71, R76, R181, R182) -/

/-- The ride state in which a store operation goes on. -/
def StoreWork.rideState : StoreWork → RideState
  | .load => .settling
  | .memoryWrite => .closing
  | .tablesWrite => .configure
  | .reload => .configure

/-- A store operation is in progress only in its ride state, and SETTLING and CLOSING last only as long as
their operation. -/
def operationFitsState (s : State) : Bool :=
  match s.store.op with
  | none => s.ride.state != .settling && s.ride.state != .closing
  | some op => s.ride.state == op.work.rideState

/-- The inbox is WORKING exactly during a TABLES write or a reload (R167). -/
def inboxFitsOperation (s : State) : Bool :=
  let atWork := match s.mgmt.inbox with
    | .working _ => true
    | .empty => false
    | .answered => false
  match s.store.op with
  | none => !atWork
  | some op =>
    atWork == (match op.work with
      | .tablesWrite => true
      | .reload => true
      | .load => false
      | .memoryWrite => false)

/-- A monitor is RUNNING exactly while its entry has one and its gate is open (R20 to R23). -/
def monitorFitsGate (s : State) (w : Fin 32) : Bool :=
  (s.monitors.at w).running
    == (match timedEntry s.tables w with
      | none => false
      | some e => gateOpen e.gate s.ride.state)

/-- A vote timer is RUNNING exactly while its rule is there and its gate is open (R57, R58). -/
def voteFitsGate (s : State) (k : Fin 4) : Bool :=
  (s.voteTimers.at k).isSome
    == (match s.tables.votes.at k with
      | none => false
      | some r => gateOpen r.gate s.ride.state)

/-- Every monitor and vote timer runs exactly while its gate is open. -/
def gatesKept (s : State) : Bool := everyIndex 32 (monitorFitsGate s) && everyIndex 4 (voteFitsGate s)

/-! ### HOLD (R83) -/

/-- HOLD is asserted exactly outside ASLEEP. -/
def holdKept (s : State) : Bool := s.ride.hold == (s.ride.state != .asleep)

/-! ### Inbox and response (R165, R167) -/

/-- The attempt carries the response. -/
def attemptIsResponse (t : Transmitter) : Bool :=
  match t.attempt with
  | none => false
  | some a => a.item == .response

/-- The response slot is full exactly while the inbox is ANSWERED, and an attempt carries the response only
while the slot is full. -/
def responseFitsInbox (s : State) : Bool :=
  s.tx.response.isSome == (s.mgmt.inbox == .answered)
    && (!attemptIsResponse s.tx || s.tx.response.isSome)

/-- Store operations, the inbox, the response and HOLD fit the ride state. -/
def operationsKept (s : State) : Bool :=
  operationFitsState s && inboxFitsOperation s && responseFitsInbox s && holdKept s

/-! ### Transmission (R149) -/

/-- A free transmitter has nothing to send. -/
def selectorRested (s : State) : Bool := !transmitterFree s || (select s).isNone

/-! ### Records and lamps (R124, R144) -/

/-- A fault that is FAILING has no HEALED record. -/
def noHealedFailing (s : State) : Bool :=
  s.memory.records.all fun r => !(r.status == .healed && verdictOf s r.fault == .failing)

/-- In SETTLING and CONFIGURE every verdict is UNTESTED (R97). -/
def verdictsAtRest (s : State) : Bool :=
  !(s.ride.state == .settling || s.ride.state == .configure)
    || everyIndex 64 (fun f => (s.faultRt.at f).verdict == .untested)

/-- A FAILING verdict stands above its heal threshold, a PASSING one below its confirm threshold, in the running
states (R102). -/
def verdictsFitCounters (s : State) : Bool :=
  !s.ride.state.isRunning
    || everyIndex 64 (fun f =>
      wherePresent
        (fun d =>
          ((s.faultRt.at f).verdict != .failing || decide (d.heal < (s.faultRt.at f).counter))
            && ((s.faultRt.at f).verdict != .passing || decide ((s.faultRt.at f).counter < d.confirm)))
        (s.tables.faults.at f))

/-- The records and verdicts of a part agree: no FAILING fault has a HEALED record, verdicts at rest are
UNTESTED, and each verdict fits its counter. -/
def verdictsKept (s : State) : Bool := noHealedFailing s && verdictsAtRest s && verdictsFitCounters s

/-- A lamp that is asked to be lit is lit: by its effective request, its prove-out or UNCONFIGURED. -/
def lampLit (s : State) (l : LampState) : Bool :=
  (l.stretched != some .off)
    && (l.displayed != .off
      || (l.effective == .off && !l.proveOut && !s.mgmt.unconfigured))

/-- In the running states both requests are those of R139 and R140, and each lamp asked to be lit is lit. -/
def lampsKept (s : State) : Bool :=
  !s.ride.state.isRunning
    || (s.lamps.engine.request == engineRequest s && s.lamps.abs.request == absRequest s
      && lampLit s s.lamps.engine && lampLit s s.lamps.abs)

end Sys2Proof.Machine
end

