-- ==== Sys2Proof/Certificates/Slice0/Obligations.lean ====
section
/-!
DEFINITION. The statements for the provers. A statement that writes `t = { s with … }` says that every field it
does not name is unchanged.
-/

open Sys2Proof Sys2Proof.Machine

/-! ### The machine -/

/-- A step on a non-empty queue is the front command's meaning on the state with the queue's rest. -/
def Obligations.StepRunsFrontCommand : Prop :=
  ∀ (c : Instr) (rest : List Instr) (s : State), s.pending = c :: rest →
    step s = exec c (s.setPending rest)

/-- Every command whose frame fits answers a next state and leaves the queue; one whose frame does not fit is
refused; in power-on reset nothing but the two supply commands acts (R82; logs 3, 5, 14). -/
def Obligations.CommandsComplete : Prop :=
  ∀ (c : Instr) (s : State),
    (fitsFrame c.frameBytes = true → ∃ t, exec c s = .next t ∧ t.pending = s.pending) ∧
    (fitsFrame c.frameBytes = false → exec c s = .refused .notAFrame) ∧
    (s.inReset = true → c ≠ .powerOnReset → (∀ a b, c ≠ .leavePowerOnReset a b) →
      fitsFrame c.frameBytes = true → exec c s = .next s)

/-- The model's tick (log 2): on an empty queue every timer that runs falls by 1, and in DEEP the timers that R81
names hold. The queue then holds the expiries that the tick has brought due, the filter's change where its count has
reached 20, the change of supply band, and the completion of a store operation that has lasted its bound (R5, R24,
R59, R69, R80, R84, R85, R142, R145, R146, R153, R162, R186, R189, R190), in the model's order. -/
def Obligations.TickCountsTimers : Prop :=
  ∀ s : State, s.pending = [] → s.inReset = false → ∃ t, step s = .next t ∧
    t.tx = { s.tx with offline := s.tx.offline.map (· - 1), beaconTimer := s.tx.beaconTimer.map (· - 1) } ∧
    t.ride.clockTicks = (if s.ride.state.isRunning ∨ s.ride.state = .configure then s.ride.clockTicks + 1
      else s.ride.clockTicks) ∧
    t.ride.ignCount = (if s.pins.ign = s.ride.ign then 0 else min (s.ride.ignCount + 1) 20) ∧
    (t.ride.state = s.ride.state ∧ t.ride.band = s.ride.band ∧ t.ride.ign = s.ride.ign ∧
      t.ride.rideNumber = s.ride.rideNumber ∧ t.ride.hold = s.ride.hold) ∧
    (t.tables = s.tables ∧ t.memory = s.memory ∧ t.faultRt = s.faultRt ∧ t.watchRt = s.watchRt ∧
      t.signalRt = s.signalRt ∧ t.mgmt = s.mgmt ∧ t.pins = s.pins ∧ t.store.tables = s.store.tables ∧
      t.store.memory = s.store.memory) ∧
    (s.ride.band = .deep →
      t.chassis = s.chassis ∧ t.monitors = s.monitors ∧ t.voteTimers = s.voteTimers ∧ t.lamps = s.lamps ∧
        t.ride.classes = s.ride.classes ∧ t.ride.runTime = s.ride.runTime) ∧
    (s.ride.band ≠ .deep →
      t.chassis = { s.chassis with silence := s.chassis.silence.map (· - 1) } ∧
      (∀ w e, timedEntry s.tables w = some e → (s.monitors.at w).running = true →
        (t.monitors.at w).remaining = (s.monitors.at w).remaining - 1 ∧
        (t.monitors.at w).arrivals = (s.monitors.at w).arrivals ∧
        (e.mode = .window →
          (t.monitors.at w).previous = (s.monitors.at w).previous.map fun n => min (n + 1) 65535)) ∧
      (∀ w, (s.monitors.at w).running = false → t.monitors.at w = s.monitors.at w) ∧
      (∀ k, t.voteTimers.at k = (s.voteTimers.at k).map (· - 1)) ∧
      (∀ c, (t.ride.classes.get c).timer = (s.ride.classes.get c).timer.map (· - 1) ∧
        (t.ride.classes.get c).active = (s.ride.classes.get c).active) ∧
      t.ride.classes.ignition.timer = s.ride.classes.ignition.timer.map (· - 1) ∧
      t.lamps.proveTimer = s.lamps.proveTimer.map (· - 1) ∧
      (∀ l, (t.lamps.get l).stretch = (s.lamps.get l).stretch.map (· - 1) ∧
        (t.lamps.get l).phase = (s.lamps.get l).phase.map (fun ph => ⟨ph.on, ph.remaining - 1⟩) ∧
        (t.lamps.get l).displayed = (s.lamps.get l).displayed) ∧
      t.ride.runTime = (if s.ride.state = .running ∧
          s.ride.runTime < s.tables.settings.qualifyRun * 1000 then s.ride.runTime + 1
        else s.ride.runTime)) ∧
    t.store.op = s.store.op.map (fun op => ⟨op.work, op.ticks + 1⟩) ∧
    t.pending = dueCommands t ∧
    (∀ l, .ignFilterChange l ∈ t.pending ↔ t.ride.ignCount = 20 ∧ l = s.pins.ign) ∧
    (∀ v, .supplyBandChange v ∈ t.pending ↔ v = s.pins.vsense ∧ nextBand v s.ride.band ≠ s.ride.band) ∧
    (.silenceTimerExpiry ∈ t.pending ↔
      s.ride.band ≠ .deep ∧ s.ride.state.isRunning = true ∧ t.chassis.silence = some 0) ∧
    (∀ w, .monitorExpiry w ∈ t.pending ↔ s.ride.band ≠ .deep ∧ ∃ e, timedEntry s.tables w = some e ∧
      e.mode ≠ .period ∧ (t.monitors.at w).running = true ∧ (t.monitors.at w).remaining = 0) ∧
    (∀ w, .periodExpiry w ∈ t.pending ↔ s.ride.band ≠ .deep ∧ ∃ e, timedEntry s.tables w = some e ∧
      e.mode = .period ∧ (t.monitors.at w).running = true ∧ (t.monitors.at w).remaining = 0) ∧
    (∀ k, .voteExpiry k ∈ t.pending ↔
      s.ride.band ≠ .deep ∧ s.tables.votes.at k ≠ none ∧ t.voteTimers.at k = some 0) ∧
    (∀ c, .tailTimerExpiry c ∈ t.pending ↔ s.ride.band ≠ .deep ∧ (t.ride.classes.get c).timer = some 0) ∧
    (.ignitionTimerExpiry ∈ t.pending ↔ s.ride.band ≠ .deep ∧ t.ride.classes.ignition.timer = some 0) ∧
    (.proveOutTimerExpiry ∈ t.pending ↔ s.ride.band ≠ .deep ∧ t.lamps.proveTimer = some 0) ∧
    (∀ l, .stretchTimerExpiry l ∈ t.pending ↔ s.ride.band ≠ .deep ∧ (t.lamps.get l).stretch = some 0) ∧
    (∀ l, .flashPhaseExpiry l ∈ t.pending ↔
      s.ride.band ≠ .deep ∧ ∃ on, (t.lamps.get l).phase = some ⟨on, 0⟩) ∧
    (.offlineTimerExpiry ∈ t.pending ↔ t.tx.offline = some 0) ∧
    (.beaconTimerExpiry ∈ t.pending ↔ t.tx.beaconTimer = some 0) ∧
    (.loadCompletion ∈ t.pending ↔ ∃ n, t.store.op = some ⟨.load, n⟩ ∧ 60 ≤ n) ∧
    (.memoryWriteCompletion ∈ t.pending ↔ ∃ n, t.store.op = some ⟨.memoryWrite, n⟩ ∧ 120 ≤ n) ∧
    (.tablesWriteCompletion ∈ t.pending ↔ ∃ n, t.store.op = some ⟨.tablesWrite, n⟩ ∧ 400 ≤ n) ∧
    (.reloadCompletion ∈ t.pending ↔ ∃ n, t.store.op = some ⟨.reload, n⟩ ∧ 60 ≤ n)

/-- Power-on reset: every block at its power-on values, the settings at their defaults, every item of the lamps and
of the transmitter among them, the store's regions kept (R7, R10, R35, R38, R57, R82, R84, R97, R116, R138, R152,
R156, R157, R160, R162, R165, R167, R187). Leaving power-on reset: every block has those values still, the straps fix
the part identifiers, the part is ASLEEP with HOLD released, the lamps off, the filtered IGN level LOW and the band
DEEP (R82). That the two supply events are commands is the model's choice (log 5). -/
def Obligations.PowerOnResetEnteredAndLeft : Prop :=
  (∀ s : State, ∃ t, exec .powerOnReset s = .next t ∧ t.inReset = true ∧
     t.chassis = ⟨0, .live, none⟩ ∧
     (∀ w, t.watchRt.at w = ⟨.never, none, none⟩ ∧ t.monitors.at w = ⟨false, 0, 0, none⟩ ∧
       t.tables.watch.at w = none ∧ t.tx.slots.at w = none) ∧
     (∀ i, t.signalRt.at i = ⟨none, none, 0⟩ ∧ t.tables.signals.at i = none ∧
       t.faultRt.at i = ⟨0, .untested, false⟩ ∧ t.tables.faults.at i = none ∧ t.tx.notices.at i = false) ∧
     (∀ k, t.voteTimers.at k = none ∧ t.tables.votes.at k = none) ∧
     (t.ride.state = .asleep ∧ t.ride.ign = .low ∧ t.ride.ignCount = 0 ∧ t.ride.band = .deep ∧
       t.ride.hold = false ∧ t.ride.rideNumber = 0 ∧ t.ride.runTime = 0 ∧ t.ride.speedReached = false ∧
       t.ride.classes = Classes.inactive) ∧
     t.memory = ⟨[], false, false⟩ ∧
     (∀ l, (t.lamps.get l).request = .off ∧ (t.lamps.get l).displayed = .off ∧ lampOutput t l = false ∧
       (t.lamps.get l).stretch = none ∧ (t.lamps.get l).stretched = none ∧
       (t.lamps.get l).proveOut = false ∧ (t.lamps.get l).phase = none) ∧
     t.lamps.proveTimer = none ∧
     (t.tx.response = none ∧ t.tx.queue = [] ∧ t.tx.beaconDue = false ∧ t.tx.errorCount = 0 ∧
       t.tx.offline = none ∧ t.tx.noticeLevel = 0 ∧ t.tx.enables = ⟨true, true, true, true⟩ ∧
       t.tx.beaconTimer = none ∧ t.tx.attempt = none) ∧
     t.tables.settings =
       { ignitionBlanking := 1500, crankTail := 2000, supplyTail := 500, absTail := 1000, portTail := 500,
         silenceTime := 100, qualifyRun := 60, qualifySpeed := 100, proveOutTime := 2000,
         lampStretch := 1000, beaconPeriod := 1000, noticeLevel := 0,
         noticeEnables := ⟨true, true, true, true⟩ } ∧
     (t.mgmt.inbox = .empty ∧ t.mgmt.buffer = [] ∧ t.mgmt.unconfigured = false) ∧
     (t.store.tables = s.store.tables ∧ t.store.memory = s.store.memory ∧ t.store.op = none ∧
       t.store.storeLost = false) ∧
     t.pending = s.pending) ∧
  (∀ (id0 id1 : Bool) (s : State), s.inReset = true → ∃ t, exec (.leavePowerOnReset id0 id1) s = .next t ∧
     t.inReset = false ∧ t.strap.val = 2 * id1.toNat + id0.toNat ∧
     t.ride.state = .asleep ∧ t.ride.hold = false ∧ t.ride.ign = .low ∧ t.ride.band = .deep ∧
     (∀ l, lampOutput t l = false) ∧ t.tables = Tables.empty ∧ t.memory.records = [] ∧
     t.store.tables = s.store.tables ∧ t.store.memory = s.store.memory ∧ t.pending = s.pending ∧
     (∀ u, exec .powerOnReset s = .next u →
       t = { u with inReset := false, strap := t.strap, pins := { s.pins with id0 := id0, id1 := id1 } }))

/-! ### Chassis segment -/

/-- Frames and bus errors the port does not take change nothing (R1). A request frame that arrives in ASLEEP or
SETTLING, with the inbox full, or while the cluster port is OFFLINE, changes nothing (R152, R168). A request frame
is read by its bytes (log 15). -/
def Obligations.IgnoredFramesChangeNothing : Prop :=
  (∀ (s : State) (id : CanId) (p : List Byte), portTakes s = false → p.length ≤ 8 →
     exec (.errorFreeFrame id p) s = .next s ∧ exec .busError s = .next s) ∧
  (∀ (s : State) (p : List Byte), p.length ≤ 8 →
     s.ride.state = .asleep ∨ s.ride.state = .settling ∨ s.mgmt.inbox ≠ .empty ∨ s.tx.offline ≠ none →
     exec (.requestDiscarded p) s = .next s)

/-- A bus error that is taken raises the count by 8, saturating at 255; a LIVE port whose count reaches 128 becomes
DOWN: its PORT_DOWN fail sample is sent and its class becomes active; the silence timer stays (R3, R4, R6, R89). The
silence timer's expiry: the timer becomes IDLE and a LIVE port becomes DOWN in the same way (R5, R4, R6, R89). R90
leaves the order of the sample and the class open; it is free (log 8). The selector at the end of the event is the
model's choice (log 1). -/
def Obligations.ErrorsAndSilenceTakePortDown : Prop :=
  let failed (x : State) : State := takeSample (.portDown .chassis) .fail x
  let classed (x : State) : State :=
    { x with ride := { x.ride with classes := { x.ride.classes with portDown := ⟨true, none⟩ } } }
  let taken (x t : State) : Prop :=
    t = runSelector (classed (failed x)) ∨ t = runSelector (failed (classed x))
  (∀ s : State, s.inReset = false → portTakes s = true → ∃ t, exec .busError s = .next t ∧
     t.chassis.errorCount = min (s.chassis.errorCount + 8) 255 ∧
     t.chassis.silence = s.chassis.silence ∧
     (s.chassis.condition = .live → 128 ≤ min (s.chassis.errorCount + 8) 255 →
       t.chassis.condition = .down ∧ t.ride.classes.portDown = ⟨true, none⟩ ∧
       ∃ n, (n = s.freeUses ∨ n = s.freeUses + 1) ∧
         taken { s with
           chassis := ⟨min (s.chassis.errorCount + 8) 255, .down, s.chassis.silence⟩, freeUses := n } t) ∧
     (s.chassis.condition = .down ∨ min (s.chassis.errorCount + 8) 255 < 128 →
       t = { s with chassis := t.chassis, tx := { s.tx with attempt := t.tx.attempt } } ∧
       t.chassis.condition = s.chassis.condition) ∧
     t = { s with
       chassis := t.chassis, faultRt := t.faultRt, memory := t.memory, lamps := t.lamps,
       freeUses := t.freeUses,
       ride := { s.ride with classes := { s.ride.classes with portDown := t.ride.classes.portDown } },
       tx := { s.tx with notices := t.tx.notices, attempt := t.tx.attempt } }) ∧
  (∀ s : State, s.inReset = false → s.ride.state.isRunning = true → s.ride.band ≠ .deep →
     s.chassis.silence = some 0 → ∃ t, exec .silenceTimerExpiry s = .next t ∧
     t.chassis = ⟨s.chassis.errorCount, .down, none⟩ ∧
     (s.chassis.condition = .live → t.ride.classes.portDown = ⟨true, none⟩ ∧
       ∃ n, (n = s.freeUses ∨ n = s.freeUses + 1) ∧
         taken { s with chassis := ⟨s.chassis.errorCount, .down, none⟩, freeUses := n } t) ∧
     (s.chassis.condition = .down →
       t = { s with chassis := t.chassis, tx := { s.tx with attempt := t.tx.attempt } }) ∧
     t = { s with
       chassis := t.chassis, faultRt := t.faultRt, memory := t.memory, lamps := t.lamps,
       freeUses := t.freeUses,
       ride := { s.ride with classes := { s.ride.classes with portDown := t.ride.classes.portDown } },
       tx := { s.tx with notices := t.tx.notices, attempt := t.tx.attempt } })

/-- An error-free frame that is taken lowers the count by 1, returns a DOWN port to LIVE below 96, with its PORT_DOWN
pass sample and the end of its class on the tail of the settings, reloads the silence timer in the running states,
and is then screened; whatever the frame does further, the tables, the store and the supply stay (R2, R4, R5, R6,
R89). R90 leaves the order of the sample and the class open; it is free (log 8). The selector at the end of the event
is the model's choice (log 1). -/
def Obligations.FrameAccountedByPort : Prop :=
  ∀ (s : State) (id : CanId) (p : List Byte), s.inReset = false → portTakes s = true → p.length ≤ 8 →
    ∃ t x, exec (.errorFreeFrame id p) s = .next t ∧ t = runSelector (screenFrame id p x) ∧
    let port : ChassisPort :=
      ⟨s.chassis.errorCount - 1,
        if s.chassis.condition = .down ∧ s.chassis.errorCount - 1 < 96 then .live
        else s.chassis.condition,
        if s.ride.state.isRunning then some s.tables.settings.silenceTime else s.chassis.silence⟩
    let passed (x : State) : State := takeSample (.portDown .chassis) .pass x
    let ended (x : State) : State :=
      { x with ride := { x.ride with classes := { x.ride.classes with
        portDown :=
          if s.tables.settings.portTail = 0 then ⟨false, none⟩ else ⟨true, some s.tables.settings.portTail⟩ } } }
    (s.chassis.condition = .live ∨ 96 ≤ s.chassis.errorCount - 1 → x = { s with chassis := port }) ∧
    (s.chassis.condition = .down → s.chassis.errorCount - 1 < 96 → ∃ n,
      (n = s.freeUses ∨ n = s.freeUses + 1) ∧
      let y : State := { s with chassis := { port with silence := s.chassis.silence }, freeUses := n }
      (x = { ended (passed y) with chassis := port } ∨ x = { passed (ended y) with chassis := port })) ∧
    t.chassis = port ∧
    t.tables = s.tables ∧ t.store = s.store ∧ t.pins = s.pins ∧ t.strap = s.strap ∧ t.mgmt = s.mgmt ∧
    t.ride.band = s.ride.band ∧ t.ride.ign = s.ride.ign ∧ t.ride.rideNumber = s.ride.rideNumber ∧
    t.ride.hold = s.ride.hold ∧ t.pending = s.pending

/-- In CONFIGURE or UNCONFIGURED a frame goes to the pass-through queue, a full queue first discarding its
head, and a frame on a part identifier is dropped; no watch runtime, monitor or signal changes (R9, R156). A
frame that matches no watch entry is dropped: it changes no entry's runtime, no monitor, no signal, no slot
and no queue (R9). An attempt of a discarded head belongs to no item any more (R151, R156; log 16). -/
def Obligations.UnscreenedFrameDisposed : Prop :=
  (∀ (s : State) (id : CanId) (p : List Byte), s.inReset = false → portTakes s = true → p.length ≤ 8 →
     s.passThrough = true →
     ∃ t, exec (.errorFreeFrame id p) s = .next t ∧
     t.tx.queue =
       (if isPartId s.strap id then s.tx.queue
        else if s.tx.queue.length < 8 then s.tx.queue ++ [⟨id, p⟩] else s.tx.queue.tail ++ [⟨id, p⟩]) ∧
     t.watchRt = s.watchRt ∧ t.monitors = s.monitors ∧ t.signalRt = s.signalRt ∧
     t.voteTimers = s.voteTimers ∧ t.tx.slots = s.tx.slots ∧ t.ride.state = s.ride.state ∧
     (∀ a, s.tx.attempt = some a → ∃ r, t.tx.attempt = some ⟨a.frame,
       if isPartId s.strap id = false ∧ 8 ≤ s.tx.queue.length ∧ a.item = .queueHead then .gone else a.item,
       r⟩)) ∧
  (∀ (s : State) (id : CanId) (p : List Byte), s.inReset = false → portTakes s = true → p.length ≤ 8 →
     s.passThrough = false → (∀ w e, s.tables.watch.at w = some e → e.identifier ≠ id) →
     ∃ t, exec (.errorFreeFrame id p) s = .next t ∧
     t.watchRt = s.watchRt ∧ t.monitors = s.monitors ∧ t.signalRt = s.signalRt ∧
     t.voteTimers = s.voteTimers ∧ t.tx.slots = s.tx.slots ∧ t.tx.queue = s.tx.queue ∧
     t.ride.state = s.ride.state ∧
     (s.chassis.condition = .live → t.faultRt = s.faultRt ∧ t.memory = s.memory ∧ t.lamps = s.lamps))

/-- The screening of an arrival: a frame of the right length and checksum takes part in the alive check, a repeat is
bad, and a good frame makes its entry FRESH and becomes its last-good payload; no other entry's runtime changes
(R11 to R18). With the port LIVE, the whole arrival in the order of R11: the running monitor takes it, with its
MISSING and EARLY samples (R25, R26, R28, R29); the FRAME_LENGTH, FRAME_CHECKSUM, ALIVE and RESTART samples
(R12, R13, R14); at a restart the histories of the entry's signals cleared (R15, R46); the signals of a good frame
evaluated (R16); the offer (R19). The check value is that of R13, as Obligations.SubstituteBuilt gives it. The selector
at the end of the event is the model's choice (log 1). -/
def Obligations.ArrivalScreened : Prop :=
  ∀ (s : State) (id : CanId) (p : List Byte) (w : Fin 32) (e : WatchEntry), s.inReset = false →
    portTakes s = true → p.length ≤ 8 → s.passThrough = false →
    watchNaming s.tables id = some w → s.tables.watch.at w = some e →
    ∃ t, exec (.errorFreeFrame id p) s = .next t ∧
    let old := s.watchRt.at w
    let checked := p.length = e.expectedLength ∧
      ∀ c, e.checksum = some c → p.getD c.byte.val 0 = frameCheck c p
    let repeated := ∃ a, e.alive = some a ∧ old.previousAlive = some (a.received p)
    (checked ∧ ¬repeated → (t.watchRt.at w).freshness = .fresh ∧ (t.watchRt.at w).lastGood = some p) ∧
    (¬checked ∨ repeated →
      (t.watchRt.at w).freshness = old.freshness ∧ (t.watchRt.at w).lastGood = old.lastGood ∧
      t.signalRt = s.signalRt) ∧
    (¬checked ∨ e.alive = none → (t.watchRt.at w).previousAlive = old.previousAlive) ∧
    (∀ a, checked → e.alive = some a → (t.watchRt.at w).previousAlive = some (a.received p)) ∧
    (∀ v, v ≠ w → t.watchRt.at v = s.watchRt.at v) ∧
    (s.chassis.condition = .live →
      let m := s.monitors.at w
      let timed : Bool := e.deadline != 0 && m.running
      let monitor : Monitor := match e.mode with
        | .retrigger => { m with remaining := e.deadline, arrivals := min (m.arrivals + 1) 255 }
        | .window =>
          { m with remaining := e.deadline, arrivals := min (m.arrivals + 1) 255, previous := some 0 }
        | .period => { m with arrivals := min (m.arrivals + 1) 255 }
      let timing : List (Source × Finding) := match timed, e.mode, m.previous with
        | true, .retrigger, _ => [(.frame .missing w, .pass)]
        | true, .window, none => [(.frame .missing w, .pass)]
        | true, .window, some n =>
          [(.frame .missing w, .pass), (.frame .early w, if e.minimumInterval ≤ n then .pass else .fail)]
        | true, .period, _ => []
        | false, _, _ => []
      let sumHolds : Bool := e.checksum.all fun c => p.getD c.byte.val 0 == frameCheck c p
      let screening : List (Source × Finding) :=
        if p.length ≠ e.expectedLength then [(.frame .length w, .fail)]
        else if e.checksum = none then [(.frame .length w, .pass)]
        else [(.frame .length w, .pass), (.frame .checksum w, if sumHolds then .pass else .fail)]
      let fits : Bool := p.length == e.expectedLength && sumHolds
      let received : Option (BitVec 4) := if fits then e.alive.map (·.received p) else none
      let sequence : List (Source × Finding) := match old.previousAlive, received with
        | some q, some r =>
          if r = q + 1 then [(.frame .alive w, .pass), (.frame .restart w, .pass)]
          else if r = q then [(.frame .alive w, .fail)]
          else if r = 0 then [(.frame .restart w, .fail)]
          else [(.frame .alive w, .fail)]
        | some _, none => []
        | none, _ => []
      let restarted : Bool := received == some 0 && old.previousAlive.any fun q => q != 0 && q + 1 != 0
      let good : Bool := fits && (received.isNone || received != old.previousAlive)
      let offered : Bool := e.policy == .pass || (e.policy == .drop || e.policy == .hold) && good
      let x := takeSamples (timing ++ screening ++ sequence) { s with
        chassis := ⟨s.chassis.errorCount - 1, .live, some s.tables.settings.silenceTime⟩
        monitors := if timed then s.monitors.put w monitor else s.monitors }
      ∃ y z : State, y = { x with watchRt := y.watchRt, signalRt := y.signalRt } ∧
        (∀ v, y.watchRt.at v = if v = w then
            ⟨if good then .fresh else old.freshness, if good then some p else old.lastGood,
              if received.isSome then received else old.previousAlive⟩
          else s.watchRt.at v) ∧
        (∀ i, y.signalRt.at i =
          if restarted && (s.tables.signals.at i).any (·.watch == w) then
            { s.signalRt.at i with previous := none, frozenRun := 0 }
          else s.signalRt.at i) ∧
        z = (if good then evaluateFrame w p y else y) ∧
        t = runSelector (if offered then offerSlot w ⟨id, p⟩ z else z))

/-- After screening, the arrival is offered to its entry's slot as the forward policy gives, as received; a frame
not offered leaves the slot, and no other slot changes (R19). An attempt of the frame that an offer replaces belongs
to no item any more; every other attempt keeps its item (R151, R154; log 16). -/
def Obligations.ArrivalForwarded : Prop :=
  ∀ (s : State) (id : CanId) (p : List Byte) (w : Fin 32) (e : WatchEntry), s.inReset = false →
    portTakes s = true → p.length ≤ 8 → s.passThrough = false →
    watchNaming s.tables id = some w → s.tables.watch.at w = some e →
    ∃ t, exec (.errorFreeFrame id p) s = .next t ∧
    let good := p.length = e.expectedLength ∧
      (∀ c, e.checksum = some c → p.getD c.byte.val 0 = frameCheck c p) ∧
      ¬∃ a, e.alive = some a ∧ (s.watchRt.at w).previousAlive = some (a.received p)
    let offered := e.policy = .pass ∨ (e.policy = .drop ∨ e.policy = .hold) ∧ good
    (e.policy = .none → t.tx.slots = s.tx.slots) ∧
    (e.policy = .pass → t.tx.slots = s.tx.slots.put w (some ⟨id, p⟩)) ∧
    (e.policy = .drop ∨ e.policy = .hold → good → t.tx.slots = s.tx.slots.put w (some ⟨id, p⟩)) ∧
    (e.policy = .drop ∨ e.policy = .hold → ¬good → t.tx.slots = s.tx.slots) ∧
    (∀ a, s.tx.attempt = some a → ∃ i r, t.tx.attempt = some ⟨a.frame, i, r⟩ ∧
      (offered ∧ a.item = .slot w → i = .gone) ∧ (¬offered ∨ a.item ≠ .slot w → i = a.item)) ∧
    t.tx.queue = s.tx.queue

/-! ### Deadline monitors and substitutes -/

/-- The expiry of a RETRIGGER or WINDOW monitor: the MISSING fail sample, the STALE mark, the substitute offer under
HOLD with a last-good payload, the reload (R27, R32). An attempt of the frame that the substitute replaces belongs to
no item any more (R151, R154; log 16). -/
def Obligations.MonitorExpiryMarksStale : Prop :=
  ∀ (s : State) (w : Fin 32) (e : WatchEntry), s.inReset = false → s.ride.band ≠ .deep →
    s.tables.watch.at w = some e → e.deadline ≠ 0 → e.mode ≠ .period →
    (s.monitors.at w).running = true → (s.monitors.at w).remaining = 0 →
    ∃ t, exec (.monitorExpiry w) s = .next t ∧
    let sampled := takeSample (.frame .missing w) .fail s
    t.watchRt = s.watchRt.put w { s.watchRt.at w with freshness := .stale } ∧
    t.monitors = s.monitors.put w { s.monitors.at w with remaining := e.deadline, arrivals := 0 } ∧
    (e.policy = .hold → ∀ b, (s.watchRt.at w).lastGood = some b →
      t.tx.slots = s.tx.slots.put w (some ⟨e.identifier, substituteBytes e b⟩)) ∧
    (e.policy ≠ .hold ∨ (s.watchRt.at w).lastGood = none → t.tx.slots = s.tx.slots) ∧
    (∀ a, s.tx.attempt = some a → ∃ r, t.tx.attempt = some ⟨a.frame,
      if e.policy = .hold ∧ (s.watchRt.at w).lastGood ≠ none ∧ a.item = .slot w then .gone else a.item, r⟩) ∧
    t = { s with
      watchRt := t.watchRt, monitors := t.monitors, faultRt := sampled.faultRt, memory := sampled.memory,
      lamps := sampled.lamps,
      tx := { s.tx with notices := sampled.tx.notices, slots := t.tx.slots, attempt := t.tx.attempt } }

/-- The expiry of a PERIOD monitor, judged by its arrivals: none gives MISSING fail, the STALE mark and the offer
under HOLD; more than the burst limit gives EARLY fail (R30, R32). An attempt of the frame that the substitute replaces
belongs to no item any more (R151, R154; log 16). -/
def Obligations.PeriodExpiryJudgesArrivals : Prop :=
  ∀ (s : State) (w : Fin 32) (e : WatchEntry), s.inReset = false → s.ride.band ≠ .deep →
    s.tables.watch.at w = some e → e.deadline ≠ 0 → e.mode = .period →
    (s.monitors.at w).running = true → (s.monitors.at w).remaining = 0 →
    ∃ t, exec (.periodExpiry w) s = .next t ∧
    let n := (s.monitors.at w).arrivals
    let sampled := takeSample (.frame .early w) (if n ≤ e.burstLimit then .pass else .fail)
      (takeSample (.frame .missing w) (if n = 0 then .fail else .pass) s)
    t.watchRt = (if n = 0 then s.watchRt.put w { s.watchRt.at w with freshness := .stale }
      else s.watchRt) ∧
    t.monitors = s.monitors.put w { s.monitors.at w with remaining := e.deadline, arrivals := 0 } ∧
    (n = 0 → e.policy = .hold → ∀ b, (s.watchRt.at w).lastGood = some b →
      t.tx.slots = s.tx.slots.put w (some ⟨e.identifier, substituteBytes e b⟩)) ∧
    (n ≠ 0 ∨ e.policy ≠ .hold ∨ (s.watchRt.at w).lastGood = none → t.tx.slots = s.tx.slots) ∧
    (∀ a, s.tx.attempt = some a → ∃ r, t.tx.attempt = some ⟨a.frame,
      if n = 0 ∧ e.policy = .hold ∧ (s.watchRt.at w).lastGood ≠ none ∧ a.item = .slot w then .gone else a.item,
      r⟩) ∧
    t = { s with
      watchRt := t.watchRt, monitors := t.monitors, faultRt := sampled.faultRt, memory := sampled.memory,
      lamps := sampled.lamps,
      tx := { s.tx with notices := sampled.tx.notices, slots := t.tx.slots, attempt := t.tx.attempt } }

/-- A substitute keeps the last-good payload but for the stale marker byte, which reads 0xFF, and the checksum
byte, which the Frame Screener's check passes (R155). The check value is 255 less the sum of the seed and of every
payload byte but the checksum byte, taken modulo 256 (R13). -/
def Obligations.SubstituteBuilt : Prop :=
  ∀ (e : WatchEntry) (b : List Byte), e.consistent = true → b.length = e.expectedLength →
    (substituteBytes e b).length = b.length ∧
    (∀ c, e.checksum = some c →
      (substituteBytes e b).getD c.byte.val 0 = frameCheck c (substituteBytes e b)) ∧
    (∀ i, e.staleMarker = some i → (substituteBytes e b).getD i.val 0 = 0xFF) ∧
    (∀ k : Nat, (∀ i, e.staleMarker = some i → i.val ≠ k) → (∀ c, e.checksum = some c → c.byte.val ≠ k) →
      (substituteBytes e b).getD k 0 = b.getD k 0) ∧
    ∀ (c : ChecksumByte) (p : List Byte), (frameCheck c p).toNat =
      255 - (((List.range p.length).map fun i => if i = c.byte.val then 0 else (p.getD i 0).toNat).sum +
        c.seed.toNat) % 256

/-! ### Signals -/

/-- Extraction reads payload bits upward from the start bit, the first the least significant; a SIGNED field is
taken as a two's complement number of its length (R39). -/
def Obligations.FieldExtracted : Prop :=
  ∀ (e : SignalEntry) (payload : List Byte), 1 ≤ e.length → ∃ n : Nat,
    n < 2 ^ e.length ∧
    (∀ i, i < e.length →
      n.testBit i = (payload.getD ((e.startBit + i) / 8) 0).getLsbD ((e.startBit + i) % 8)) ∧
    (e.signedness = .unsigned → extract e payload = n) ∧
    (e.signedness = .signed → n.testBit (e.length - 1) = false → extract e payload = n) ∧
    (e.signedness = .signed → n.testBit (e.length - 1) = true →
      extract e payload = (n : Int) - 2 ^ e.length)

/-- Scaling: the exact product, divided by 2^shift rounding down, the offset added, the sum saturated (R40). -/
def Obligations.EngineeringValueScaled : Prop :=
  ∀ (e : SignalEntry) (raw : Int), ∃ q : Int,
    q * 2 ^ e.shift ≤ raw * e.gain ∧ raw * e.gain < (q + 1) * 2 ^ e.shift ∧
    (32767 < q + e.offset → scale e raw = 32767) ∧
    (q + e.offset < -32768 → scale e raw = -32768) ∧
    (-32768 ≤ q + e.offset → q + e.offset ≤ 32767 → scale e raw = q + e.offset)

/-- A good frame gives every signal of its entry the engineering value of its field as value and previous value,
with its frozen run, and leaves every other signal (R41, R44, R45). The signals are evaluated in ascending index,
each with its SIG_RANGE, SIG_STEP and SIG_FROZEN samples (R41 to R44); then the role updates are taken in ascending
index (R50): an ENGINE_STATE update moves the ride state with the gates and the CRANK class (R22, R23, R58, R73, R74,
R86), a VEHICLE_SPEED update reaches the qualify speed (R77), an ABS_REGULATING update begins or ends the ABS_ACTIVE
class (R88), an ABS_READY update ends an ABS prove-out that has outlasted the timer (R143). -/
def Obligations.FrameEvaluatesSignals : Prop :=
  (∀ (s : State) (w : Fin 32) (payload : List Byte),
    (∀ i e, s.tables.signals.at i = some e → e.watch = w →
      let v := scale e (extract e payload)
      (evaluateFrame w payload s).signalRt.at i =
        ⟨some v, some v,
          if (s.signalRt.at i).previous = some v then min ((s.signalRt.at i).frozenRun + 1) 255
          else 1⟩) ∧
    (∀ i, (∀ e, s.tables.signals.at i = some e → e.watch ≠ w) →
      (evaluateFrame w payload s).signalRt.at i = s.signalRt.at i) ∧
    let named := (List.finRange 64).filter fun i => (s.tables.signals.at i).any (·.watch == w)
    let evaluated : State := named.foldl (fun u i =>
      match u.tables.signals.at i with
      | none => u
      | some e =>
        let v := scale e (extract e payload)
        let rt := u.signalRt.at i
        let run := if rt.previous = some v then min (rt.frozenRun + 1) 255 else 1
        let step : List (Source × Finding) := match rt.previous with
          | none => []
          | some q =>
            if e.stepLimit = 0 then []
            else [(.signal .step i, if (v - q).natAbs ≤ e.stepLimit then .pass else .fail)]
        let frozen : List (Source × Finding) :=
          if e.frozenLimit = 0 ∨ rt.previous = none then []
          else [(.signal .frozen i, if run < e.frozenLimit then .pass else .fail)]
        let sampled := takeSamples
          ((.signal .range i, if e.rangeLow ≤ v ∧ v ≤ e.rangeHigh then .pass else .fail) :: (step ++ frozen)) u
        { sampled with signalRt := sampled.signalRt.put i ⟨some v, some v, run⟩ }) s
    let updates : List RoleUpdate := named.filterMap fun i =>
      (s.tables.signals.at i).bind fun e =>
        if e.role = .none then none
        else some ⟨e.role, (s.signalRt.at i).value.getD 0, scale e (extract e payload)⟩
    evaluateFrame w payload s = updates.foldl applyRoleUpdate evaluated) ∧
  (∀ (u : State) (before v : Int), u.ride.state.isRunning = true ∨ u.ride.state = .configure →
    let old := u.ride.state
    let new : RideState := if old.isRunning = false then old
      else if v = 0 then .keyOn else if v = 1 then .cranking else if v = 2 then .running else old
    let moved := applyRoleUpdate u ⟨.engineState, before, v⟩
    let ended (tail : Nat) : BlankingClass := if tail = 0 then ⟨false, none⟩ else ⟨true, some tail⟩
    let withClasses (c : Classes) : State := { u with ride := { u.ride with classes := c } }
    let ready := applyRoleUpdate u ⟨.absReady, before, v⟩
    (new = old → moved = u) ∧
    (new ≠ old →
      moved = { u with
        monitors := moved.monitors, voteTimers := moved.voteTimers,
        ride := { u.ride with
          state := new,
          classes := { u.ride.classes with
            crank := if new = .cranking then ⟨true, none⟩
              else if old = .cranking then ended u.tables.settings.crankTail else u.ride.classes.crank } } } ∧
      (∀ w, moved.monitors.at w = match timedEntry u.tables w with
        | none => u.monitors.at w
        | some e =>
          if gateOpen e.gate old = false ∧ gateOpen e.gate new = true then
            ⟨true, e.deadline + e.startAllowance, 0, none⟩
          else if gateOpen e.gate old = true ∧ gateOpen e.gate new = false then
            { u.monitors.at w with running := false }
          else u.monitors.at w) ∧
      (∀ k, moved.voteTimers.at k = match u.tables.votes.at k with
        | none => u.voteTimers.at k
        | some r =>
          if gateOpen r.gate old = false ∧ gateOpen r.gate new = true then some r.period
          else if gateOpen r.gate old = true ∧ gateOpen r.gate new = false then none
          else u.voteTimers.at k)) ∧
    applyRoleUpdate u ⟨.vehicleSpeed, before, v⟩ =
      (if u.tables.settings.qualifySpeed ≤ v then { u with ride := { u.ride with speedReached := true } }
       else u) ∧
    applyRoleUpdate u ⟨.absRegulating, before, v⟩ =
      (if before = 0 ∧ v ≠ 0 then withClasses { u.ride.classes with absActive := ⟨true, none⟩ }
       else if before ≠ 0 ∧ v = 0 then
         withClasses { u.ride.classes with absActive := ended u.tables.settings.absTail }
       else u) ∧
    (v = 0 ∨ u.lamps.abs.proveOut = false ∨ u.lamps.proveTimer ≠ none → ready = u) ∧
    (v ≠ 0 → u.lamps.abs.proveOut = true → u.lamps.proveTimer = none →
      ready = { u with lamps := ready.lamps } ∧ ready.lamps.abs.proveOut = false ∧
      ready.lamps.abs.request = u.lamps.abs.request ∧
      ready.lamps.engine.request = u.lamps.engine.request ∧
      (u.ride.state.isRunning = true → u.mgmt.unconfigured = false → u.ride.band ≠ .deep →
        ready.lamps.abs.displayed = u.lamps.abs.stretched.getD u.lamps.abs.request)))

/-! ### Votes -/

/-- Two members agree exactly when their difference is within the allowance; the order does not matter, and the two
saturation limits never agree (R61). -/
def Obligations.VoteAgreementAllowance : Prop :=
  ∀ (r : VoteRule) (x y : Int),
    (agree r x y = true ↔
      |x - y| ≤ r.absoluteTolerance + (r.relativeTolerance * max x.natAbs y.natAbs / 256 : Nat)) ∧
    agree r x y = agree r y x ∧
    (r.legal = true → agree r 32767 (-32768) = false)

/-- The samples of an evaluated three-member rule, by the number of disagreeing pairs (R60, R62, R64). -/
def Obligations.ThreeMemberOutcome : Prop :=
  ∀ (s : State) (k : Fin 4) (r : VoteRule) (c : Fin 64), r.memberC = some c →
    (∀ m, m = r.memberA ∨ m = r.memberB ∨ m = c → signalFreshness s m = .fresh) →
    (∃ m, (m = r.memberA ∨ m = r.memberB ∨ m = c) ∧ r.floor ≤ (signalValue s m).natAbs) →
    let ab := agree r (signalValue s r.memberA) (signalValue s r.memberB)
    let ac := agree r (signalValue s r.memberA) (signalValue s c)
    let bc := agree r (signalValue s r.memberB) (signalValue s c)
    let split (x : Finding) : Source × Finding := (.vote .split k, x)
    let all (a b c : Finding) : List (Source × Finding) :=
      [(.vote .a k, a), (.vote .b k, b), (.vote .c k, c), split .pass]
    (ab = true ∧ ac = true ∧ bc = true → voteSamples s k r = all .pass .pass .pass) ∧
    (ab = false ∧ ac = false ∧ bc = true → voteSamples s k r = all .fail .pass .pass) ∧
    (ab = false ∧ ac = true ∧ bc = false → voteSamples s k r = all .pass .fail .pass) ∧
    (ab = true ∧ ac = false ∧ bc = false → voteSamples s k r = all .pass .pass .fail) ∧
    (ab.toNat + ac.toNat + bc.toNat = 2 → voteSamples s k r = [split .pass]) ∧
    (ab = false ∧ ac = false ∧ bc = false → voteSamples s k r = [split .fail])

/-- A vote rule's expiry sends the samples of its outcome and reloads the timer with the period; a rule with a
member that is not FRESH, or with every member below the floor, sends none (R60). A two-member rule that is evaluated
sends VOTE_SPLIT pass where its members agree, fail where they do not (R63). -/
def Obligations.VoteExpiryReloads : Prop :=
  ∀ (s : State) (k : Fin 4) (r : VoteRule), s.inReset = false → s.ride.band ≠ .deep →
    s.tables.votes.at k = some r → s.voteTimers.at k = some 0 →
    ∃ t, exec (.voteExpiry k) s = .next t ∧
    let sampled := takeSamples (voteSamples s k r) s
    t = { s with
      voteTimers := s.voteTimers.put k (some r.period), faultRt := sampled.faultRt,
      memory := sampled.memory, lamps := sampled.lamps,
      tx := { s.tx with notices := sampled.tx.notices, attempt := t.tx.attempt } } ∧
    ((∃ m ∈ r.members, signalFreshness s m ≠ .fresh) ∨
        (∀ m ∈ r.members, (signalValue s m).natAbs < r.floor) →
      sampled = s) ∧
    (r.memberC = none → signalFreshness s r.memberA = .fresh → signalFreshness s r.memberB = .fresh →
      r.floor ≤ (signalValue s r.memberA).natAbs ∨ r.floor ≤ (signalValue s r.memberB).natAbs →
      sampled = takeSample (.vote .split k)
        (if agree r (signalValue s r.memberA) (signalValue s r.memberB) = true then .pass else .fail) s)

/-! ### Faults and records -/

/-- A counted sample moves its fault's counter by the jump and the step, saturating, and no other fault's runtime
(R100, R101). -/
def Obligations.SampleMovesCounter : Prop :=
  ∀ (s : State) (src : Source) (f : Fin 64) (d : FaultDef), s.ride.state.isRunning = true →
    faultNaming s src = some f → s.tables.faults.at f = some d → blanks d.mask s.ride.classes = false →
    let c := (s.faultRt.at f).counter
    ((takeSample src .fail s).faultRt.at f).counter =
      min 127 ((if d.jumpUp = true ∧ c < 0 then 0 else c) + d.stepUp) ∧
    ((takeSample src .pass s).faultRt.at f).counter =
      max (-128) ((if d.jumpDown = true ∧ c > 0 then 0 else c) - d.stepDown) ∧
    (∀ x g, g ≠ f → (takeSample src x s).faultRt.at g = s.faultRt.at g)

/-- After a counted sample the verdict follows the new counter, and the failed-this-ride flag is set at an entry into
FAILING alone (R102, R103, R106). An entry into FAILING and a return to PASSING set the notice and tell the Lamp
Driver, which computes both requests from the records and verdicts as the event leaves them; any other counted sample
changes the fault's runtime alone (R104, R105, R141). -/
def Obligations.SampleMovesVerdict : Prop :=
  ∀ (s : State) (src : Source) (x : Finding) (f : Fin 64) (d : FaultDef), s.ride.state.isRunning = true →
    faultNaming s src = some f → s.tables.faults.at f = some d → blanks d.mask s.ride.classes = false →
    d.legal = true →
    let t := takeSample src x s
    let before := s.faultRt.at f
    let after := t.faultRt.at f
    (after.counter ≥ d.confirm → after.verdict = .failing) ∧
    (after.counter ≤ d.heal → after.verdict = .passing) ∧
    (d.heal < after.counter → after.counter < d.confirm →
      after.verdict = if before.verdict = .untested then .undecided else before.verdict) ∧
    (after.failed = (before.failed || (after.verdict == .failing && before.verdict != .failing))) ∧
    (after.verdict ≠ before.verdict → (after.verdict = .failing ∨ before.verdict = .failing) →
      t.tx.notices.at f = true ∧ t.lamps = (updateLamps { t with lamps := s.lamps }).lamps) ∧
    (after.verdict = before.verdict ∨ after.verdict ≠ .failing ∧ before.verdict ≠ .failing →
      t = { s with faultRt := t.faultRt })

/-- A sample outside the running states, of a source that feeds no fault, or of a blanked fault changes nothing
(R98, R99). -/
def Obligations.SampleDiscarded : Prop :=
  ∀ (s : State) (src : Source) (x : Finding),
    (s.ride.state.isRunning = false → takeSample src x s = s) ∧
    ((∀ f d, s.tables.faults.at f = some d → d.source ≠ src) → takeSample src x s = s) ∧
    (∀ f d, faultNaming s src = some f → s.tables.faults.at f = some d →
      blanks d.mask s.ride.classes = true → takeSample src x s = s)

/-- A fault without a record that enters FAILING in a memory with room: a record is appended with its
capture, the region is dirty and the fault's notice is pending (R104, R118, R119). A fault with a record
that enters FAILING again updates it in place: the count rises, the last-failure ride is this ride's, the
good rides return to 0, PENDING from an earlier ride and HEALED become CONFIRMED; the capture and every
other record stay (R124). -/
def Obligations.FailingIsRecorded : Prop :=
  (∀ (s : State) (src : Source) (f : Fin 64) (d : FaultDef), s.ride.state.isRunning = true →
     faultNaming s src = some f → s.tables.faults.at f = some d → blanks d.mask s.ride.classes = false →
     (s.faultRt.at f).verdict ≠ .failing → (d.confirm : Int) ≤ failStep d (s.faultRt.at f).counter →
     recordOf s f = none → s.memory.records.length < 20 →
     let t := takeSample src .fail s
     t.memory.records = s.memory.records ++
       [{ fault := f, status := if d.twoRide then .pending else .confirmed, occurrences := 1,
          firstRide := s.ride.rideNumber, lastRide := s.ride.rideNumber, goodRides := 0,
          rideState := s.ride.state, band := s.ride.band, clock := min (s.ride.clockTicks / 1000) 65535,
          signals := d.capture.map fun i => ⟨i, signalValue s i, signalValid s i⟩ }] ∧
     t.memory.dirty = true ∧ t.memory.full = s.memory.full ∧ t.tx.notices.at f = true ∧
     (∀ g, g ≠ f → t.tx.notices.at g = s.tx.notices.at g)) ∧
  (∀ (s : State) (src : Source) (f : Fin 64) (d : FaultDef) (r : FaultRecord),
     s.ride.state.isRunning = true →
     faultNaming s src = some f → s.tables.faults.at f = some d → blanks d.mask s.ride.classes = false →
     (s.faultRt.at f).verdict ≠ .failing → (d.confirm : Int) ≤ failStep d (s.faultRt.at f).counter →
     r ∈ s.memory.records → r.fault = f → (s.memory.records.map (·.fault)).Nodup →
     let t := takeSample src .fail s
     t.memory.records = s.memory.records.map (fun x => if x.fault = f then
       { r with
         occurrences := min (r.occurrences + 1) 255, lastRide := s.ride.rideNumber, goodRides := 0,
         status := if r.status = .pending ∧ s.ride.rideNumber ≤ r.firstRide then .pending else .confirmed }
       else x) ∧
     t.memory.dirty = true ∧ t.memory.full = s.memory.full ∧ t.tx.notices.at f = true)

/-- In a full memory the new record takes the place of the best eligible victim: not FAILING, of a level not above
the failing fault's, HEALED before PENDING before CONFIRMED, then the lowest level, then the oldest; without one no
record is made and MEMORY_FULL is set (R120, R121, R122). -/
def Obligations.FullMemoryChoosesVictim : Prop :=
  ∀ (s : State) (src : Source) (f : Fin 64) (d : FaultDef), s.ride.state.isRunning = true →
    faultNaming s src = some f → s.tables.faults.at f = some d → blanks d.mask s.ride.classes = false →
    (s.faultRt.at f).verdict ≠ .failing → (d.confirm : Int) ≤ failStep d (s.faultRt.at f).counter →
    recordOf s f = none → s.memory.records.length = 20 → (s.memory.records.map (·.fault)).Nodup →
    let t := takeSample src .fail s
    let eligible (r : FaultRecord) : Prop := verdictOf s r.fault ≠ .failing ∧ levelOf s r.fault ≤ d.level
    let key (r : FaultRecord) : Nat := r.status.victimRank * 4 + levelOf s r.fault
    ((∀ r ∈ s.memory.records, ¬eligible r) →
      t.memory = { s.memory with full := true }) ∧
    (∀ front v back, s.memory.records = front ++ v :: back → eligible v → d.level ≤ 3 →
      (∀ r ∈ front, eligible r → key v < key r) → (∀ r ∈ back, eligible r → key v ≤ key r) →
      t.memory.records.length = 20 ∧ t.memory.records.take 19 = front ++ back ∧
      (∃ r, t.memory.records[19]? = some r ∧ r.fault = f ∧ r.occurrences = 1) ∧
      t.memory.full = s.memory.full ∧ t.memory.dirty = true ∧
      t.tx.notices.at v.fault = true ∧ t.tx.notices.at f = true)

/-! ### Ride, supply and store -/

/-- The filtered IGN level takes a raw HIGH at a count of 20: in ASLEEP it begins SETTLING, HOLD asserted, the load
begun, every block at its wake values (R69, R70, R71, R7, R35, R38, R57, R84, R97, R116, R138, R152, R156, R157, R162,
R167). That the command carries the raw level is the model's choice (log 4); that the tables given up at the end
of CLOSING stand until the load is inferred (log 13), and so is that an attempt in progress completes no item
(log 16). -/
def Obligations.IgnitionHighWakes : Prop :=
  ∀ s : State, s.inReset = false → s.ride.state = .asleep → s.ride.ign = .low → s.ride.ignCount = 20 →
    ∃ t, exec (.ignFilterChange .high) s = .next t ∧
    t.ride.state = .settling ∧ t.ride.hold = true ∧ t.ride.ign = .high ∧ t.ride.ignCount = 0 ∧
    t.store.op = some ⟨.load, 0⟩ ∧ t.store.storeLost = false ∧
    t.chassis = ⟨0, .live, none⟩ ∧ (∀ w, t.monitors.at w = ⟨false, 0, 0, none⟩) ∧
    (∀ i, t.signalRt.at i = ⟨none, none, 0⟩) ∧ (∀ k, t.voteTimers.at k = none) ∧
    (∀ f, t.faultRt.at f = ⟨0, .untested, false⟩) ∧ t.lamps = LampDriver.initial ∧
    t.mgmt.inbox = .empty ∧ t.mgmt.buffer = [] ∧ t.tx.response = none ∧ t.tx.queue = [] ∧
    t.ride.band = s.ride.band ∧ t.ride.rideNumber = s.ride.rideNumber ∧ t.tables = s.tables ∧
    t.store.tables = s.store.tables ∧ t.store.memory = s.store.memory ∧
    t.ride.classes = Classes.inactive ∧ t.memory.full = false ∧ t.memory.dirty = false ∧
    (∀ w, t.tx.slots.at w = none) ∧ (∀ f, t.tx.notices.at f = false) ∧ t.tx.beaconDue = false ∧
    t.tx.beaconTimer = none ∧ t.tx.errorCount = 0 ∧ t.tx.offline = none ∧
    t.tx.attempt = s.tx.attempt.map (fun a => { a with item := .gone }) ∧
    t.pins = { s.pins with ign := .high }

/-- The filtered IGN level takes a raw LOW at a count of 20. In the running states it closes the ride: a qualified
ride raises the ride number and processes the records, setting the notice-pending flag of each record's fault that it
changes or removes, any other leaves them; both lamps are off, the classes inactive, the slots and the queue empty,
and the MEMORY write of the ride number and the records begins where the region is dirty (R69, R75 to R78, R125 to
R129, R156, R162, R189). In CONFIGURE, with no LEAVE CONFIGURE at work, it closes the ride as non-qualified (R75, R92).
A level in any other state, a raw level that is the filtered one, and a count below 20 change nothing else (R69, R71,
R76, R92). That the command carries the raw level, and that the region holds the content from the write's beginning,
are the model's choices (logs 4, 12); that a qualified closure at ride number 65535 marks the region dirty, that a
good-ride count held at 255 is no change, and that the tables stand in ASLEEP, are inferred (logs 13, 17, 18), as is
the item of an attempt that is gone (log 16). The selector at the end of the event is the model's choice (log 1). -/
def Obligations.IgnitionLowClosesRide : Prop :=
  (∀ s : State, s.inReset = false → s.ride.state.isRunning = true → s.ride.ign = .high →
    s.ride.ignCount = 20 → s.store.op = none → ∃ t, exec (.ignFilterChange .low) s = .next t ∧
    let qualified := s.tables.settings.qualifyRun * 1000 ≤ s.ride.runTime ∧ s.ride.speedReached = true
    let processed (r : FaultRecord) : Option FaultRecord :=
      match s.tables.faults.at r.fault with
      | none => some r
      | some d =>
        if (s.faultRt.at r.fault).failed = false ∧ (s.faultRt.at r.fault).verdict = .passing then
          match r.status with
          | .pending => none
          | .confirmed =>
            some { r with
              goodRides := min (r.goodRides + 1) 255,
              status := if d.lampOffRides ≤ min (r.goodRides + 1) 255 then .healed else .confirmed }
          | .healed =>
            if d.agingRides ≠ 0 ∧ d.agingRides ≤ min (r.goodRides + 1) 255 then none
            else some { r with goodRides := min (r.goodRides + 1) 255 }
        else some r
    let writing := { s.store with
      op := some ⟨.memoryWrite, 0⟩,
      memory := regionBeginWrite memorySize (memoryContent t.ride.rideNumber t.memory.records) s.store.memory }
    t.ride.ign = .low ∧ (∀ l, lampOutput t l = false) ∧ t.ride.classes = Classes.inactive ∧
    t.chassis.silence = none ∧ t.tx.queue = [] ∧ (∀ w, t.tx.slots.at w = none) ∧
    t.tx.beaconDue = false ∧ t.tx.beaconTimer = none ∧
    t.tables = s.tables ∧ t.faultRt = s.faultRt ∧ t.ride.band = s.ride.band ∧
    (∀ a, s.tx.attempt = some a → ∃ r, t.tx.attempt = some ⟨a.frame,
      if t.ride.state = .asleep then .gone else emptiedItem a.item, r⟩) ∧
    (qualified →
      t.ride.state = .closing ∧ t.ride.hold = s.ride.hold ∧ t.store = writing ∧ t.memory.dirty = true ∧
      t.ride.rideNumber = min (s.ride.rideNumber + 1) 65535 ∧
      t.memory.records = s.memory.records.filterMap processed ∧
      (∀ f, t.tx.notices.at f = true ↔ s.tx.notices.at f = true ∨
        ∃ r ∈ s.memory.records, r.fault = f ∧ processed r ≠ some r)) ∧
    (¬qualified → s.memory.dirty = true →
      t.ride.state = .closing ∧ t.ride.hold = s.ride.hold ∧ t.store = writing ∧
      t.ride.rideNumber = s.ride.rideNumber ∧ t.memory = s.memory ∧ t.tx.notices = s.tx.notices) ∧
    (¬qualified → s.memory.dirty = false →
      t.ride.state = .asleep ∧ t.ride.hold = false ∧ t.ride.rideNumber = s.ride.rideNumber ∧
      t.store = s.store ∧ t.memory.records = [] ∧ ∀ f, t.tx.notices.at f = false)) ∧
  (∀ (s : State) (level : Level), s.inReset = false →
    let raw : State := { s with pins := { s.pins with ign := level } }
    let filtered : State := { raw with ride := { s.ride with ign := level, ignCount := 0 } }
    (s.ride.ignCount ≠ 20 ∨ s.ride.ign = level → exec (.ignFilterChange level) s = .next raw) ∧
    (s.ride.ignCount = 20 → s.ride.ign ≠ level → level = .low → s.ride.state = .configure →
      (∀ w, s.mgmt.inbox ≠ .working w) →
      ∃ t, exec (.ignFilterChange level) s = .next (runSelector t) ∧ RideClosed filtered t) ∧
    (s.ride.ignCount = 20 → s.ride.ign ≠ level →
      level = .high ∧ s.ride.state ≠ .asleep ∨
        level = .low ∧ (s.ride.state = .asleep ∨ s.ride.state = .settling ∨ s.ride.state = .closing ∨
          s.ride.state = .configure ∧ ∃ w, s.mgmt.inbox = .working w) →
      exec (.ignFilterChange level) s = .next (runSelector filtered)))

/-- A VSENSE sample brings the band up to date by the table of R80; the LOW_SUPPLY class follows in the running states
and CONFIGURE (R80, R84, R87). When the band leaves DEEP, each lamp's displayed pattern is brought up to date by R144,
entering FLASH with an ON half-cycle of 250, a FLASH that stays keeping its phase (R146, R147); nothing else changes.
That the command carries the sample is the model's choice (log 4); that the class does not follow in the other ride
states is inferred (log 19). -/
def Obligations.SupplyBandFollowsSample : Prop :=
  ∀ (v : Nat) (s : State), s.inReset = false → ∃ t, exec (.supplyBandChange v) s = .next t ∧
    (s.ride.band = .normal → t.ride.band = if v < 6500 then .deep else if v < 8500 then .low else .normal) ∧
    (s.ride.band = .low → t.ride.band = if v < 6500 then .deep else if v < 9000 then .low else .normal) ∧
    (s.ride.band = .deep → t.ride.band = if v < 7000 then .deep else .low) ∧
    (s.ride.state.isRunning = true ∨ s.ride.state = .configure → s.ride.band = .normal →
      t.ride.band ≠ .normal → t.ride.classes.lowSupply = ⟨true, none⟩) ∧
    (s.ride.state.isRunning = true ∨ s.ride.state = .configure → s.ride.band ≠ .normal →
      t.ride.band = .normal → t.ride.classes.lowSupply =
        if s.tables.settings.supplyTail = 0 then ⟨false, none⟩
        else ⟨true, some s.tables.settings.supplyTail⟩) ∧
    ((s.ride.band = .normal ↔ t.ride.band = .normal) → t.ride.classes = s.ride.classes) ∧
    (s.ride.state.isRunning = false → s.ride.state ≠ .configure → t.ride.classes = s.ride.classes) ∧
    (s.ride.band ≠ .deep ∨ t.ride.band = .deep → t.lamps = s.lamps) ∧
    (s.ride.band = .deep → t.ride.band ≠ .deep → t.lamps.proveTimer = s.lamps.proveTimer ∧
      ∀ l, let old := s.lamps.get l
        let shown : Pattern :=
          if s.ride.state = .configure then .steady
          else if s.ride.state.isRunning = false then .off
          else if s.mgmt.unconfigured = true ∨ old.proveOut = true then .steady
          else old.stretched.getD old.request
        t.lamps.get l = { old with
          displayed := shown
          phase := if old.displayed = shown then old.phase
            else if shown = .flash then some ⟨true, 250⟩ else none }) ∧
    t = { s with
      pins := { s.pins with vsense := v }, lamps := t.lamps,
      ride := { s.ride with
        band := t.ride.band,
        classes := { s.ride.classes with lowSupply := t.ride.classes.lowSupply } } }

/-- The expiry of a tail timer or of the IGNITION timer makes its class inactive, its timer IDLE, and changes
nothing else (R84, R85). -/
def Obligations.BlankingTimersEndClasses : Prop :=
  ∀ s : State, s.inReset = false → s.ride.band ≠ .deep →
    (∀ c, (s.ride.classes.get c).timer = some 0 →
      exec (.tailTimerExpiry c) s =
        .next { s with ride := { s.ride with classes := s.ride.classes.put c ⟨false, none⟩ } }) ∧
    (s.ride.classes.ignition.timer = some 0 →
      exec .ignitionTimerExpiry s =
        .next { s with ride := { s.ride with
          classes := { s.ride.classes with ignition := ⟨false, none⟩ } } })

/-- The prove-out timer's expiry ends the engine prove-out, and the ABS one where the ABS_READY role value
is other than 0 or no signal holds the role (R142, R143). A stretch timer's expiry ends the stretch, so a
lamp that followed it goes to its request; a half-cycle's expiry toggles the phase for another 250 ms (R145,
R146). The Lamp Driver told of a change computes both requests from the definitions, the verdicts and the records
(R139, R140, R141). A request left as it was touches nothing. One that becomes lit loads the stretch timer, one that
falls while the timer runs is kept as the stretched pattern, and no other change touches the timer (R145). The
displayed pattern follows by R144, entering FLASH with an ON half-cycle of 250 ms; in DEEP a lit lamp holds its
pattern and its phase against its effective request (R146, R147). -/
def Obligations.LampTimersExpireInTurn : Prop :=
  (∀ s : State, s.inReset = false → s.ride.band ≠ .deep → s.lamps.proveTimer = some 0 →
     ∃ t, exec .proveOutTimerExpiry s = .next t ∧ t = { s with lamps := t.lamps } ∧
     t.lamps.proveTimer = none ∧ t.lamps.engine.proveOut = false ∧
     (roleValue s .absReady ≠ 0 → t.lamps.abs.proveOut = false) ∧
     ((∀ i e, s.tables.signals.at i = some e → e.role ≠ .absReady) → t.lamps.abs.proveOut = false) ∧
     (roleValue s .absReady = 0 →
       (∃ i e, s.tables.signals.at i = some e ∧ e.role = .absReady) →
       t.lamps.abs.proveOut = s.lamps.abs.proveOut) ∧
     (s.ride.state.isRunning = true → s.mgmt.unconfigured = false →
       t.lamps.engine.displayed = s.lamps.engine.stretched.getD s.lamps.engine.request) ∧
     t.lamps.engine.request = s.lamps.engine.request ∧ t.lamps.abs.request = s.lamps.abs.request) ∧
  (∀ (s : State) (l : Lamp), s.inReset = false → s.ride.band ≠ .deep →
     ((s.lamps.get l).stretch = some 0 → ∃ t, exec (.stretchTimerExpiry l) s = .next t ∧
       t = { s with lamps := t.lamps } ∧
       (t.lamps.get l).stretch = none ∧ (t.lamps.get l).stretched = none ∧
       (t.lamps.get l).request = (s.lamps.get l).request ∧
       (s.ride.state.isRunning = true → s.mgmt.unconfigured = false → (s.lamps.get l).proveOut = false →
         (t.lamps.get l).displayed = (s.lamps.get l).request) ∧
       (∀ k, k ≠ l → t.lamps.get k = s.lamps.get k)) ∧
     (∀ ph, (s.lamps.get l).phase = some ph → ph.remaining = 0 →
       ∃ t, exec (.flashPhaseExpiry l) s = .next t ∧ t = { s with lamps := t.lamps } ∧
       (t.lamps.get l) = { s.lamps.get l with phase := some ⟨!ph.on, 250⟩ } ∧
       (∀ k, k ≠ l → t.lamps.get k = s.lamps.get k))) ∧
  (∀ s : State,
     let u := updateLamps s
     let confirmed (f : Fin 64) : Prop := ∃ r ∈ s.memory.records, r.fault = f ∧ r.status = .confirmed
     let failing (f : Fin 64) : Prop := (s.faultRt.at f).verdict = .failing
     let anyFault (p : Fin 64 → FaultDef → Prop) : Prop := ∃ f d, s.tables.faults.at f = some d ∧ p f d
     let engine (d : FaultDef) : Prop := d.lamp = .engineSteady ∨ d.lamp = .engineFlash
     u = { s with lamps := u.lamps } ∧ u.lamps.proveTimer = s.lamps.proveTimer ∧
     (u.lamps.engine.request = .flash ↔ anyFault fun f d => d.lamp = .engineFlash ∧ failing f ∧ confirmed f) ∧
     (u.lamps.engine.request ≠ .off ↔ anyFault fun f d =>
       engine d ∧ (confirmed f ∨ d.immediateLamp = true ∧ failing f)) ∧
     u.lamps.abs.request ≠ .flash ∧
     (u.lamps.abs.request ≠ .off ↔ anyFault fun f d =>
       d.lamp = .abs ∧ (confirmed f ∨ d.immediateLamp = true ∧ failing f)) ∧
     ∀ l, let old := s.lamps.get l
       let new := u.lamps.get l
       let running := s.ride.state.isRunning
       let forced : Prop := s.mgmt.unconfigured = true ∨ old.proveOut = true
       let shown : Pattern :=
         if s.ride.state = .configure then .steady
         else if running = false then .off
         else if forced then .steady else new.stretched.getD new.request
       let held : Prop := s.ride.band = .deep ∧ running = true ∧ ¬forced ∧ old.displayed ≠ .off
       new.proveOut = old.proveOut ∧ (new.request = old.request → new = old) ∧
       (new.request ≠ old.request →
         (running = false → new.stretch = none ∧ new.stretched = none) ∧
         (running = true → old.request = .off → new.stretched = none ∧
           new.stretch = if s.tables.settings.lampStretch = 0 then none
             else some s.tables.settings.lampStretch) ∧
         (running = true → old.request ≠ .off → new.stretch = old.stretch ∧
           new.stretched = if new.request = .off ∧ old.stretch ≠ none then some old.request else none) ∧
         (held → new.displayed = old.displayed ∧ new.phase = old.phase) ∧
         (¬held → new.displayed = shown ∧
           new.phase = if old.displayed = shown then old.phase
             else if shown = .flash then some ⟨true, 250⟩ else none)))

/-- The load completes. The tables are those of the region, or EMPTY tables and default settings, UNCONFIGURED, where
it is lost; the ride number and the records are those of the MEMORY region, or 0 and none, the region dirty and
STORE_LOST set, where it is lost (R184, R186, R187, R188). With IGN HIGH ride start follows into KEY_ON, in the order
of R72, with its gates, classes, lamps, notices, mask, beacon and samples (R58, R71, R72, R84, R142, R157, R160,
R162); with IGN LOW the closure as non-qualified (R71, R75, R76). What unreadable bytes of a valid region load as is
free (log 10); that a load ignores unused bits and bytes that are set is the model's choice (log 24), and so are the
region's content from the write's beginning and the selector at the end of the event (logs 1, 12); that a load clears
the runtime of EMPTY entries, that the tables stand in ASLEEP, and that an emptied or given-up item of an attempt is
gone, are inferred (logs 13, 16, 22). -/
def Obligations.LoadStartsRide : Prop :=
  (∀ (s : State) (n : Nat), s.inReset = false → s.store.op = some ⟨.load, n⟩ → 1 ≤ n → s.ride.ign = .high →
    ∃ t, exec .loadCompletion s = .next t ∧
    let lost := regionValid tablesSize s.store.tables = false ∨
      holdsPartId s.strap (Tables.ofContent (regionContent tablesSize s.store.tables)) = true
    (lost → t.tables = Tables.empty ∧ t.mgmt.unconfigured = true) ∧
    (¬lost → t.tables = Tables.ofContent (regionContent tablesSize s.store.tables) ∧
      t.mgmt.unconfigured = false) ∧
    (t.store.storeLost = !regionValid memorySize s.store.memory) ∧
    (regionValid memorySize s.store.memory = true →
      t.ride.rideNumber = (memoryOfContent (regionContent memorySize s.store.memory)).1 ∧
      (∀ r ∈ (memoryOfContent (regionContent memorySize s.store.memory)).2,
        t.tx.notices.at r.fault = true) ∧
      (s.chassis.condition = .live → s.tx.offline = none →
        t.memory.records = (memoryOfContent (regionContent memorySize s.store.memory)).2)) ∧
    (regionValid memorySize s.store.memory = false → t.ride.rideNumber = 0 ∧ t.memory.dirty = true) ∧
    t.ride.state = .keyOn ∧ t.ride.clockTicks = 0 ∧ t.ride.runTime = 0 ∧ t.ride.speedReached = false ∧
    t.ride.classes.ignition.active = decide (t.tables.settings.ignitionBlanking ≠ 0) ∧
    t.chassis.silence = some t.tables.settings.silenceTime ∧
    t.lamps.proveTimer = some t.tables.settings.proveOutTime ∧
    (∀ l, (t.lamps.get l).proveOut = true ∧ (t.lamps.get l).displayed = .steady) ∧
    (∀ w, t.watchRt.at w = ⟨.never, none, none⟩) ∧ (∀ i, t.signalRt.at i = ⟨none, none, 0⟩) ∧
    t.store.op = none ∧ t.store.tables = s.store.tables ∧ t.store.memory = s.store.memory ∧
    t.ride.hold = s.ride.hold) ∧
  (∀ (s : State) (n : Nat), s.inReset = false → s.store.op = some ⟨.load, n⟩ → 1 ≤ n →
    ∃ b t, exec .loadCompletion s = .next (runSelector t) ∧ TablesLoaded s b ∧
    b = { s with
      tables := b.tables, mgmt := b.mgmt, watchRt := b.watchRt, monitors := b.monitors,
      signalRt := b.signalRt, voteTimers := b.voteTimers, faultRt := b.faultRt, memory := b.memory,
      ride := { s.ride with rideNumber := b.ride.rideNumber },
      store := { s.store with op := none, storeLost := b.store.storeLost } } ∧
    (regionValid memorySize s.store.memory = true →
      b.memory = ⟨(memoryOfContent (regionContent memorySize s.store.memory)).2, false, false⟩ ∧
      b.ride.rideNumber = (memoryOfContent (regionContent memorySize s.store.memory)).1 ∧
      b.store.storeLost = false) ∧
    (regionValid memorySize s.store.memory = false →
      b.memory = ⟨[], false, true⟩ ∧ b.ride.rideNumber = 0 ∧ b.store.storeLost = true) ∧
    (s.ride.ign = .high → RideStarted b t) ∧
    (s.ride.ign = .low → s.ride.state = .settling → RideClosed b t))

/-- The MEMORY write completes: the region is valid with the content as written, and the filtered IGN level decides
between ASLEEP, HOLD released, and SETTLING with a new load (R76, R184, R185, R189). That the region holds the content
from the write's beginning is the model's choice (log 12); that the tables stand in ASLEEP and SETTLING is inferred
(log 13). -/
def Obligations.MemoryWriteCompletes : Prop :=
  ∀ (s : State) (n : Nat), s.inReset = false → s.store.op = some ⟨.memoryWrite, n⟩ → 1 ≤ n →
    areasCanonical s = true → ∃ t, exec .memoryWriteCompletion s = .next t ∧
    regionValid memorySize t.store.memory = true ∧
    regionContent memorySize t.store.memory = regionContent memorySize s.store.memory ∧
    t.store.tables = s.store.tables ∧ t.memory.dirty = false ∧ t.tables = s.tables ∧
    t.ride.rideNumber = s.ride.rideNumber ∧
    (s.ride.ign = .low → t.ride.state = .asleep ∧ t.ride.hold = false ∧ t.store.op = none ∧
      t.memory.records = [] ∧ t.mgmt.inbox = .empty ∧ t.tx.response = none) ∧
    (s.ride.ign = .high → t.ride.state = .settling ∧ t.ride.hold = true ∧
      t.store.op = some ⟨.load, 0⟩ ∧ t.mgmt.inbox = .empty ∧ t.mgmt.buffer = [])

/-- The TABLES write of a commit completes: the region is valid, UNCONFIGURED clears, the response carries the number
of records the cleanup removed, and a ride starts with IGN HIGH or closes as non-qualified with IGN LOW (R71, R72, R75,
R76, R92, R181, R185). That a region holds the content from its write's beginning is the model's choice (log 12), and
so is the selector at the end of the event (log 1); that the tables stand in ASLEEP, and that an emptied or given-up
item of an attempt is gone, are inferred (logs 13, 16). -/
def Obligations.CommitCompletes : Prop :=
  (∀ (s : State) (n removed : Nat), s.inReset = false → s.store.op = some ⟨.tablesWrite, n⟩ → 1 ≤ n →
    areasCanonical s = true → s.mgmt.inbox = .working (.commit removed) → s.ride.ign = .high →
    ∃ t, exec .tablesWriteCompletion s = .next t ∧
    regionValid tablesSize t.store.tables = true ∧
    regionContent tablesSize t.store.tables = regionContent tablesSize s.store.tables ∧
    t.store.memory = s.store.memory ∧ t.store.op = none ∧ t.mgmt.unconfigured = false ∧
    t.tx.response = some ⟨0x41, .ok, [byteOf removed]⟩ ∧ t.mgmt.inbox = .answered ∧
    t.ride.state = .keyOn ∧ t.tables = s.tables ∧ t.ride.clockTicks = 0 ∧
    t.ride.rideNumber = s.ride.rideNumber ∧ (∀ l, (t.lamps.get l).displayed = .steady)) ∧
  (∀ (s : State) (n removed : Nat), s.inReset = false → s.store.op = some ⟨.tablesWrite, n⟩ → 1 ≤ n →
    s.mgmt.inbox = .working (.commit removed) →
    ∃ t, exec .tablesWriteCompletion s = .next (runSelector t) ∧
    let b : State := { s with
      store := { s.store with tables := regionEndWrite tablesSize s.store.tables, op := none },
      mgmt := { s.mgmt with inbox := .answered, unconfigured := false },
      tx := { s.tx with response := some ⟨0x41, .ok, [byteOf removed]⟩ } }
    (s.ride.ign = .high → RideStarted b t) ∧
    (s.ride.ign = .low → s.ride.state = .configure → RideClosed b t))

/-- The reload of an abandon completes: the tables are those of the region, or EMPTY where it is lost, the response
carries no data, the ride number and the region stay, and a ride starts with IGN HIGH or closes as non-qualified with
IGN LOW (R71, R72, R75, R76, R92, R182, R186, R187, R190). What unreadable bytes of a valid region load as is free
(log 10); that a load ignores unused bits and bytes that are set is the model's choice (log 24), and so are the region's
content from the write's beginning and the selector at the end of the event (logs 1, 12); that a load clears the
runtime of EMPTY entries, that the tables stand in ASLEEP, and that an emptied or given-up item of an attempt is gone,
are inferred (logs 13, 16, 22). -/
def Obligations.AbandonCompletes : Prop :=
  (∀ (s : State) (n : Nat), s.inReset = false → s.store.op = some ⟨.reload, n⟩ → 1 ≤ n →
    s.mgmt.inbox = .working .abandon → s.ride.ign = .high → ∃ t, exec .reloadCompletion s = .next t ∧
    let lost := regionValid tablesSize s.store.tables = false ∨
      holdsPartId s.strap (Tables.ofContent (regionContent tablesSize s.store.tables)) = true
    (lost → t.tables = Tables.empty ∧ t.mgmt.unconfigured = true) ∧
    (¬lost → t.tables = Tables.ofContent (regionContent tablesSize s.store.tables) ∧
      t.mgmt.unconfigured = false) ∧
    t.tx.response = some ⟨0x41, .ok, []⟩ ∧ t.mgmt.inbox = .answered ∧ t.ride.state = .keyOn ∧
    t.store.tables = s.store.tables ∧ t.store.memory = s.store.memory ∧ t.store.op = none ∧
    t.store.storeLost = s.store.storeLost ∧ t.ride.rideNumber = s.ride.rideNumber) ∧
  (∀ (s : State) (n : Nat), s.inReset = false → s.store.op = some ⟨.reload, n⟩ → 1 ≤ n →
    s.mgmt.inbox = .working .abandon → ∃ l t, exec .reloadCompletion s = .next (runSelector t) ∧
    TablesLoaded s l ∧
    l = { s with
      tables := l.tables, mgmt := l.mgmt, watchRt := l.watchRt, monitors := l.monitors,
      signalRt := l.signalRt, voteTimers := l.voteTimers, faultRt := l.faultRt,
      store := { s.store with op := none } } ∧
    let b : State := { l with
      mgmt := { l.mgmt with inbox := .answered },
      tx := { l.tx with response := some ⟨0x41, .ok, []⟩ } }
    (s.ride.ign = .high → RideStarted b t) ∧
    (s.ride.ign = .low → s.ride.state = .configure → RideClosed b t))

/-! ### Cluster transmission -/

/-- A free transmitter takes the response first, then the eligible notice of highest level and lowest fault number,
then a forwarded frame, the beacon last; where there is none it stays free. Nothing but the attempt changes (R149,
R159). The frames it forms on the part's own identifiers, each of 8 bytes: the response with its code, result and data,
the notice with its fault's state, the beacon with the ride, the band, the lamps and the clock, each with the summary
byte of that moment (R150, R161, R163, R164, R193, sections 12.1 to 12.3). The selector at the end of the event is the
model's choice (log 1). -/
def Obligations.SelectorTakesHighestItem : Prop :=
  ∀ s : State, runSelector s = { s with tx := { s.tx with attempt := (runSelector s).tx.attempt } } ∧
    (transmitterFree s = false → runSelector s = s) ∧
    (transmitterFree s = true →
      let eligible (f : Fin 64) : Prop := s.tx.notices.at f = true ∧ s.ride.state ≠ .configure ∧
        s.tx.noticeLevel ≤ levelOf s f ∧
        ∀ d, s.tables.faults.at f = some d → s.tx.enables.has d.group = true
      let own (n : Nat) : CanId := BitVec.ofNat 11 (0x7C0 + 4 * s.strap.val + n)
      let present (g : Group) : Prop :=
        ∃ f d, s.tables.faults.at f = some d ∧ d.group = g ∧ (s.faultRt.at f).verdict = .failing
      let flags (f : Fin 64) : Nat := (if (s.faultRt.at f).failed then 2 else 0) +
        match s.tables.faults.at f with
        | none => 0
        | some d => 1 + 4 * d.group.code + 16 * d.level
      let took (i : Item) (fr : Frame) : Prop := (runSelector s).tx.attempt = some ⟨fr, i, false⟩
      ∃ summary : Byte,
      ((summary.getLsbD 0 = true ↔ present .engine) ∧ (summary.getLsbD 1 = true ↔ present .brake) ∧
        (summary.getLsbD 2 = true ↔ present .network) ∧ (summary.getLsbD 3 = true ↔ present .monitor) ∧
        summary.getLsbD 4 = s.memory.full ∧ summary.getLsbD 5 = s.store.storeLost ∧
        summary.getLsbD 6 = s.mgmt.unconfigured ∧
        (summary.getLsbD 7 = true ↔ s.ride.state = .configure)) ∧
      (∀ r, s.tx.response = some r → r.data.length ≤ 5 → took .response ⟨own 1,
        [r.code, byteOf r.result.code, summary, r.data.getD 0 0, r.data.getD 1 0, r.data.getD 2 0,
          r.data.getD 3 0, r.data.getD 4 0]⟩) ∧
      (s.tx.response.isSome = true → ∃ fr, took .response fr) ∧
      (∀ f, s.tx.response = none → eligible f →
        (∀ g, eligible g → levelOf s g < levelOf s f ∨ levelOf s g = levelOf s f ∧ f ≤ g) →
        took (.notice f) ⟨own 2,
          [byteOf (f.val + 1), summary, byteOf (flags f), byteOf (verdictOf s f).code,
            (match recordOf s f with | none => 0 | some r => byteOf r.status.code),
            (match recordOf s f with | none => 0 | some r => byteOf r.occurrences), 0, 0]⟩) ∧
      (s.tx.response = none → (∀ f, ¬eligible f) →
        (∀ w fr, s.passThrough = false → s.tx.slots.at w = some fr →
          (∀ v gr, s.tx.slots.at v = some gr → fr.id < gr.id ∨ fr.id = gr.id ∧ w ≤ v) →
          (runSelector s).tx.attempt = some ⟨fr, .slot w, false⟩) ∧
        (∀ fr rest, s.passThrough = true → s.tx.queue = fr :: rest →
          (runSelector s).tx.attempt = some ⟨fr, .queueHead, false⟩) ∧
        ((if s.passThrough then s.tx.queue = [] else ∀ w, s.tx.slots.at w = none) →
          (s.tx.beaconDue = true → took .beacon ⟨own 3,
            [summary, byteOf s.ride.state.code, byteOf s.ride.band.code,
              byteOf (s.lamps.engine.displayed.code + 4 * s.lamps.abs.displayed.code),
              byteOf s.memory.records.length, byteOf (min (s.ride.clockTicks / 1000) 65535),
              byteOf (min (s.ride.clockTicks / 1000) 65535 / 256), 0]⟩) ∧
          (s.tx.beaconDue = false → runSelector s = s))))

/-- A successful attempt lowers the error count and completes its item: the response empties the slot and the
inbox, a notice or the beacon without a resend mark clears its flag, a forwarded frame leaves its slot or the
queue; an item that is gone is completed no more; then the selector runs (R151). The selector at the end of the
event, the item that is gone and the beacon's resend mark are the model's choices (logs 1, 16, 20). -/
def Obligations.AttemptSuccessCompletesItem : Prop :=
  ∀ (s : State) (a : Attempt), s.inReset = false → s.tx.attempt = some a →
    ∃ u, exec .attemptSuccess s = .next (runSelector u) ∧
    u = { s with tx := u.tx, mgmt := u.mgmt } ∧ u.tx.attempt = none ∧
    u.tx.errorCount = s.tx.errorCount - 1 ∧
    (a.item = .response → u.tx.response = none ∧ u.mgmt = { s.mgmt with inbox := .empty }) ∧
    (a.item ≠ .response → u.tx.response = s.tx.response ∧ u.mgmt = s.mgmt) ∧
    (∀ f, u.tx.notices.at f =
      (s.tx.notices.at f && !(decide (a.item = .notice f) && !a.resend))) ∧
    (∀ w, u.tx.slots.at w = if a.item = .slot w then none else s.tx.slots.at w) ∧
    (u.tx.queue = if a.item = .queueHead then s.tx.queue.tail else s.tx.queue) ∧
    (u.tx.beaconDue = (s.tx.beaconDue && !(decide (a.item = .beacon) && !a.resend))) ∧
    u.tx.beaconTimer = s.tx.beaconTimer ∧ u.tx.offline = s.tx.offline

/-- A failed attempt raises the error count by 8; below 256 the selector runs, at 256 the port goes OFFLINE for 100
ticks with its fail sample; a lost arbitration leaves the count; the item waits on (R151, R152, R153). The selector
at the end of the event is the model's choice (log 1). -/
def Obligations.AttemptFailureKeepsItem : Prop :=
  ∀ (s : State) (a : Attempt), s.inReset = false → s.tx.attempt = some a →
    (s.tx.errorCount + 8 < 256 → exec .attemptFailure s =
      .next (runSelector { s with tx := { s.tx with
        attempt := none, errorCount := s.tx.errorCount + 8 } })) ∧
    (256 ≤ s.tx.errorCount + 8 → exec .attemptFailure s =
      .next (takeSample (.portDown .cluster) .fail { s with tx := { s.tx with
        attempt := none, errorCount := 256, offline := some 100 } })) ∧
    exec .lostArbitration s = .next (runSelector { s with tx := { s.tx with attempt := none } })

/-- The OFFLINE timer's expiry returns the port to ACTIVE with count 0, its pass sample, then the selector (R152,
R153). The beacon timer's expiry makes the beacon due and reloads the timer with the period of the ride; a beacon
in an attempt is marked for another (R162). The selector at the end of the event and the beacon's resend mark are
the model's choices (logs 1, 20). -/
def Obligations.OfflineAndBeaconTimersExpire : Prop :=
  (∀ s : State, s.inReset = false → s.tx.offline = some 0 → exec .offlineTimerExpiry s =
     .next (runSelector (takeSample (.portDown .cluster) .pass
       { s with tx := { s.tx with offline := none, errorCount := 0 } }))) ∧
  (∀ s : State, s.inReset = false → s.tx.beaconTimer = some 0 →
     ∃ t, exec .beaconTimerExpiry s = .next t ∧
     t.tx.beaconDue = true ∧ t.tx.beaconTimer = some s.tx.beaconPeriod ∧
     t = { s with tx := { s.tx with
       beaconDue := true, beaconTimer := some s.tx.beaconPeriod, attempt := t.tx.attempt } } ∧
     (∀ a, s.tx.attempt = some a →
       t.tx.attempt = some (if a.item = .beacon then { a with resend := true } else a)))

/-! ### Requests -/

/-- A code that names no request is answered UNKNOWN, and REFUSED in CLOSING; a frame of length 0 likewise, with an
echo of no stated value (R169, R192). Every request of the table of R170, by its own command, that is decoded in
CLOSING or in a ride state that it is not permitted in is REFUSED; one that is permitted with too few argument bytes is
BAD_ARGUMENT; neither changes anything else (R169, R170, R192). The echo without a code is free (log 9). That a
command whose bytes spell another row's request decodes as they spell is the model's choice (log 15), and so is the
selector at the end of the event (log 1). -/
def Obligations.UnknownRefusedAndShortAnswered : Prop :=
  (∀ (s : State) (p : List Byte), s.inReset = false → takesRequest s = true → p.length ≤ 8 →
     namesNoRequest p = true → ∃ echo u, exec (.unknown p) s = .next (runSelector u) ∧
     u = { s with
       tx := { s.tx with
         response := some ⟨echo, if s.ride.state = .closing then .refused else .unknown, []⟩ },
       mgmt := { s.mgmt with inbox := .answered }, freeUses := u.freeUses } ∧
     (∀ c rest, p = c :: rest → echo = c ∧ u.freeUses = s.freeUses)) ∧
  (∀ (s : State) (i : Instr) (c : Byte) (args : List Byte) (name : RequestName), s.inReset = false →
     takesRequest s = true → args.length ≤ 7 → RequestName.ofCode c = some name →
     i.frameBytes = c :: args → (∀ id p, i ≠ .errorFreeFrame id p) →
     let answer (r : Result) : State := { s with
       tx := { s.tx with response := some ⟨c, r, []⟩ }, mgmt := { s.mgmt with inbox := .answered } }
     (s.ride.state = .closing ∨ name.permitted s.ride.state = false →
       exec i s = .next (runSelector (answer .refused))) ∧
     (name.permitted s.ride.state = true →
       (args.length < match name with
         | .status => 0 | .enterConfigure => 0 | .writeBuffer => 2 | .setNoticeMask => 2
         | .storeEntry => 2 | .fetchEntry => 2 | .eraseEntry => 2 | .readFault => 1 | .readSignal => 1
         | .peekMonitor => 1 | .fetchRecord => 1 | .readBuffer => 1 | .clearRecords => 1
         | .leaveConfigure => 1) →
       exec i s = .next (runSelector (answer .badArgument))))

/-- STATUS answers OK with the ride state, the supply band, the ride number and the record count as they stand; with
the inbox full it is discarded (R174). -/
def Obligations.StatusAnswers : Prop :=
  ∀ (s : State) (args : List Byte), args.length ≤ 7 →
    (requestsOpen s = true → ∃ t, exec (.status args) s = .next t ∧
      t.tx.response = some ⟨0x10, .ok,
        [byteOf s.ride.state.code, byteOf s.ride.band.code, byteOf s.ride.rideNumber,
         byteOf (s.ride.rideNumber / 256), byteOf s.memory.records.length]⟩ ∧
      t = { s with
        tx := { s.tx with response := t.tx.response, attempt := t.tx.attempt },
        mgmt := { s.mgmt with inbox := .answered } }) ∧
    (s.mgmt.inbox ≠ .empty → exec (.status args) s = .next s)

/-- READ FAULT answers a fault number 1..64 with its definition's presence, counter, verdict, failed-this-ride flag
and record status, an EMPTY number with zeros and the record status, and any other number BAD_ARGUMENT (R110). READ
SIGNAL answers an index 0..63 with the value, 0 when absent, the validity and the named entry's freshness; an EMPTY
signal with EMPTY; a greater index with BAD_ARGUMENT (R52, R47, R48). The selector at the end of the event is the
model's choice (log 1). -/
def Obligations.FaultAndSignalReadings : Prop :=
  (∀ (s : State) (n : Byte) (rest : List Byte), requestsOpen s = true → rest.length ≤ 6 →
     let answer (r : Result) (data : List Byte) : State := { s with
       tx := { s.tx with response := some ⟨0x11, r, data⟩ }, mgmt := { s.mgmt with inbox := .answered } }
     (n.toNat = 0 ∨ 64 < n.toNat →
       exec (.readFault (n :: rest)) s = .next (runSelector (answer .badArgument []))) ∧
     (∀ f : Fin 64, n.toNat = f.val + 1 →
       let status : Byte := match recordOf s f with
         | none => 0
         | some r => byteOf r.status.code
       (s.tables.faults.at f = none → exec (.readFault (n :: rest)) s =
         .next (runSelector (answer .ok [0, 0, 0, 0, status]))) ∧
       (∀ d, s.tables.faults.at f = some d → exec (.readFault (n :: rest)) s =
         .next (runSelector (answer .ok
           [1, BitVec.ofInt 8 (s.faultRt.at f).counter, byteOf (s.faultRt.at f).verdict.code,
            if (s.faultRt.at f).failed then 1 else 0, status]))))) ∧
  (∀ (s : State) (n : Byte) (rest : List Byte), requestsOpen s = true → rest.length ≤ 6 →
     let answer (r : Result) (data : List Byte) : State := { s with
       tx := { s.tx with response := some ⟨0x12, r, data⟩ }, mgmt := { s.mgmt with inbox := .answered } }
     (64 ≤ n.toNat →
       exec (.readSignal (n :: rest)) s = .next (runSelector (answer .badArgument []))) ∧
     (∀ i : Fin 64, n.toNat = i.val →
       (s.tables.signals.at i = none →
         exec (.readSignal (n :: rest)) s = .next (runSelector (answer .empty []))) ∧
       (∀ e, s.tables.signals.at i = some e →
         let value := ((s.signalRt.at i).value).getD 0
         exec (.readSignal (n :: rest)) s = .next (runSelector (answer .ok
           [(BitVec.ofInt 16 value).extractLsb' 0 8, (BitVec.ofInt 16 value).extractLsb' 8 8,
            if (s.signalRt.at i).value ≠ none ∧ (s.watchRt.at e.watch).freshness = .fresh then 1 else 0,
            byteOf (s.watchRt.at e.watch).freshness.code])))))

/-- PEEK MONITOR answers an index 0..31 with the mode, the monitor's state, the freshness, the remaining time and
the arrivals count, ABSENT with zeros for a deadline of 0; an EMPTY entry with EMPTY; a greater index with
BAD_ARGUMENT (R34). The selector at the end of the event is the model's choice (log 1). -/
def Obligations.PeekMonitorAnswers : Prop :=
  ∀ (s : State) (n : Byte) (rest : List Byte), requestsOpen s = true → rest.length ≤ 6 →
    let answer (r : Result) (data : List Byte) : State := { s with
      tx := { s.tx with response := some ⟨0x13, r, data⟩ }, mgmt := { s.mgmt with inbox := .answered } }
    (32 ≤ n.toNat →
      exec (.peekMonitor (n :: rest)) s = .next (runSelector (answer .badArgument []))) ∧
    (∀ w : Fin 32, n.toNat = w.val →
      (s.tables.watch.at w = none →
        exec (.peekMonitor (n :: rest)) s = .next (runSelector (answer .empty []))) ∧
      (∀ e, s.tables.watch.at w = some e → ∃ b0 b1 b2 b3 : Byte,
        exec (.peekMonitor (n :: rest)) s = .next (runSelector (answer .ok [b0, b1, b2, b3])) ∧
        b0.toNat % 4 = e.mode.code ∧ b0.toNat / 16 % 4 = (s.watchRt.at w).freshness.code ∧
        (e.deadline = 0 → b0.toNat / 4 % 4 = 0 ∧ b0.toNat / 64 = 0 ∧ b1 = 0 ∧ b2 = 0 ∧ b3 = 0) ∧
        (e.deadline ≠ 0 → (s.monitors.at w).remaining ≤ 131070 → (s.monitors.at w).arrivals ≤ 255 →
          b0.toNat / 4 % 4 = (if (s.monitors.at w).running then 2 else 1) ∧
          b1.toNat + 256 * b2.toNat + 65536 * (b0.toNat / 64) = (s.monitors.at w).remaining ∧
          b3.toNat = (s.monitors.at w).arrivals)))

/-- FETCH RECORD writes the image of the record at the position into the transfer buffer, zeros after it, and
answers its fault number, status and length; a position beyond the list answers EMPTY (R135). READ BUFFER answers
five positions from an offset 0..31, 0 beyond position 31, and leaves the buffer; WRITE BUFFER writes 1..5 bytes
within it and no other position; offsets and lengths outside are BAD_ARGUMENT (R171). The selector at the end of
the event is the model's choice (log 1). -/
def Obligations.RecordAndBufferRequestsAnswer : Prop :=
  (∀ (s : State) (k : Byte) (rest : List Byte), requestsOpen s = true → rest.length ≤ 6 →
     (s.memory.records.length ≤ k.toNat → exec (.fetchRecord (k :: rest)) s =
       .next (runSelector { s with
         tx := { s.tx with response := some ⟨0x14, .empty, []⟩ },
         mgmt := { s.mgmt with inbox := .answered } })) ∧
     (∀ r, s.memory.records[k.toNat]? = some r → ∃ u, exec (.fetchRecord (k :: rest)) s =
       .next (runSelector u) ∧
       u = { s with
         tx := { s.tx with response := some ⟨0x14, .ok,
           [byteOf (r.fault.val + 1), byteOf r.status.code, byteOf r.image.length]⟩ },
         mgmt := { s.mgmt with inbox := .answered, buffer := u.mgmt.buffer } } ∧
       (∀ a, a < 32 → Mem.read bufferFill u.mgmt.buffer a = r.image.getD a 0) ∧
       r.image.length = 11 + 3 * r.signals.length)) ∧
  (∀ (s : State) (o : Byte) (data : List Byte), requestsOpen s = true → data.length ≤ 6 →
     areasCanonical s = true →
     let answer (c : Byte) (r : Result) (d : List Byte) : State := { s with
       tx := { s.tx with response := some ⟨c, r, d⟩ }, mgmt := { s.mgmt with inbox := .answered } }
     let cell (a : Nat) : Byte := if a < 32 then Mem.read bufferFill s.mgmt.buffer a else 0
     (o.toNat ≤ 31 → exec (.readBuffer (o :: data)) s = .next (runSelector (answer 0x20 .ok
       [cell o.toNat, cell (o.toNat + 1), cell (o.toNat + 2), cell (o.toNat + 3), cell (o.toNat + 4)]))) ∧
     (32 ≤ o.toNat → exec (.readBuffer (o :: data)) s =
       .next (runSelector (answer 0x20 .badArgument []))) ∧
     (data = [] ∨ 32 < o.toNat + min data.length 5 ∨ 31 < o.toNat →
       exec (.writeBuffer (o :: data)) s = .next (runSelector (answer 0x21 .badArgument []))) ∧
     (data ≠ [] → o.toNat + min data.length 5 ≤ 32 → ∃ u, exec (.writeBuffer (o :: data)) s =
       .next (runSelector u) ∧
       u = { answer 0x21 .ok [] with
         mgmt := { s.mgmt with inbox := .answered, buffer := u.mgmt.buffer } } ∧
       (∀ a, Mem.read bufferFill u.mgmt.buffer a =
         if o.toNat ≤ a ∧ a < o.toNat + min data.length 5 then data.getD (a - o.toNat) 0
         else Mem.read bufferFill s.mgmt.buffer a) ∧
       Mem.wf bufferFill 32 u.mgmt.buffer = true))

/-- CLEAR RECORDS removes the records whose fault's group is in the mask, or whose definition is EMPTY under a mask
that is not empty, unless the fault is FAILING, and answers with the numbers removed and kept; verdicts and
MEMORY_FULL stay (R130). Where a record was removed the Lamp Driver is told (R125, R141). -/
def Obligations.ClearRecordsAnswers : Prop :=
  ∀ (s : State) (m : Byte) (rest : List Byte), requestsOpen s = true → rest.length ≤ 6 →
    ∃ t, exec (.clearRecords (m :: rest)) s = .next t ∧
    let named (r : FaultRecord) : Bool := match s.tables.faults.at r.fault with
      | none => m.getLsbD 0 || m.getLsbD 1 || m.getLsbD 2 || m.getLsbD 3
      | some d => m.getLsbD d.group.code
    let failing (r : FaultRecord) : Bool := (s.tables.faults.at r.fault).isSome &&
      (s.faultRt.at r.fault).verdict == .failing
    t.memory.records = s.memory.records.filter (fun r => !named r || failing r) ∧
    t.tx.response = some ⟨0x30, .ok,
      [byteOf (s.memory.records.filter fun r => named r && !failing r).length,
       byteOf (s.memory.records.filter fun r => named r && failing r).length]⟩ ∧
    (∀ r ∈ s.memory.records, named r = true → failing r = false →
      t.tx.notices.at r.fault = true ∧ t.memory.dirty = true) ∧
    t.memory.full = s.memory.full ∧ t.mgmt = { s.mgmt with inbox := .answered } ∧
    (if ∃ r ∈ s.memory.records, named r = true ∧ failing r = false then
      t.lamps = (updateLamps { t with lamps := s.lamps }).lamps else t.lamps = s.lamps) ∧
    t = { s with
      memory := t.memory, lamps := t.lamps, mgmt := t.mgmt,
      tx := { s.tx with
        response := t.tx.response, notices := t.tx.notices, attempt := t.tx.attempt } }

/-- SET NOTICE MASK replaces the level and the group enables and answers OK; a level above 4 is BAD_ARGUMENT
(R172). The selector at the end of the event is the model's choice (log 1). -/
def Obligations.SetNoticeMaskAnswers : Prop :=
  ∀ (s : State) (level groups : Byte) (rest : List Byte), requestsOpen s = true → rest.length ≤ 5 →
    (level.toNat ≤ 4 → exec (.setNoticeMask (level :: groups :: rest)) s =
      .next (runSelector { s with
        tx := { s.tx with
          noticeLevel := level.toNat,
          enables := ⟨groups.getLsbD 0, groups.getLsbD 1, groups.getLsbD 2, groups.getLsbD 3⟩,
          response := some ⟨0x31, .ok, []⟩ },
        mgmt := { s.mgmt with inbox := .answered } })) ∧
    (4 < level.toNat → exec (.setNoticeMask (level :: groups :: rest)) s =
      .next (runSelector { s with
        tx := { s.tx with response := some ⟨0x31, .badArgument, []⟩ },
        mgmt := { s.mgmt with inbox := .answered } }))

/-- ENTER CONFIGURE in KEY_ON at speed 0: the ride state becomes CONFIGURE, every fault UNTESTED, both lamps
STEADY, the silence timer IDLE, the slots and the queue empty, the qualification at 0, and the answer is OK; at
another speed it is REFUSED and the ride goes on (R91, R173). An attempt of an emptied frame belongs to no item any
more (R151, R156; log 16). The selector at the end of the event is the model's choice (log 1). -/
def Obligations.EnterConfigureAnswers : Prop :=
  ∀ (s : State) (args : List Byte), s.inReset = false → takesRequest s = true → s.ride.state = .keyOn →
    args.length ≤ 7 →
    (roleValue s .vehicleSpeed = 0 → ∃ t, exec (.enterConfigure args) s = .next t ∧
      t.ride.state = .configure ∧ t.ride.runTime = 0 ∧ t.ride.speedReached = false ∧
      t.ride.classes = s.ride.classes ∧ t.ride.clockTicks = s.ride.clockTicks ∧
      (∀ f, t.faultRt.at f = ⟨0, .untested, false⟩) ∧
      (∀ l, (t.lamps.get l).displayed = .steady ∧ (t.lamps.get l).proveOut = false ∧
        (t.lamps.get l).stretch = none ∧ (t.lamps.get l).stretched = none) ∧
      t.lamps.proveTimer = none ∧
      t.chassis = { s.chassis with silence := none } ∧
      (∀ w, t.tx.slots.at w = none) ∧ t.tx.queue = [] ∧ t.tx.notices = s.tx.notices ∧
      (∀ a, s.tx.attempt = some a → t.tx.attempt = some { a with item := emptiedItem a.item }) ∧
      t.tx.response = some ⟨0x40, .ok, []⟩ ∧ t.mgmt = { s.mgmt with inbox := .answered } ∧
      t.tables = s.tables ∧ t.memory = s.memory ∧ t.watchRt = s.watchRt ∧ t.signalRt = s.signalRt ∧
      t.store = s.store ∧
      (∀ w e, timedEntry s.tables w = some e → e.gate ≠ .running → (t.monitors.at w).running = false)) ∧
    (roleValue s .vehicleSpeed ≠ 0 → exec (.enterConfigure args) s =
      .next (runSelector { s with
        tx := { s.tx with response := some ⟨0x40, .refused, []⟩ },
        mgmt := { s.mgmt with inbox := .answered } }))

/-- LEAVE CONFIGURE with commit: tables that pass the checks begin the TABLES write, the inbox WORKING, the records
of EMPTY definitions removed and the Lamp Driver told where there were any; tables that fail a check are answered BAD_ENTRY and nothing else changes (R125,
R132, R141, R180, R181). LEAVE CONFIGURE without commit begins the reload: the inbox WORKING, no response, nothing else changed
(R182). That the region holds the content from the write's beginning is the model's choice (log 12), and so is the
selector at the end of the event (log 1). -/
def Obligations.LeaveConfigureBegins : Prop :=
  (∀ (s : State) (flag : Byte) (rest : List Byte), configuring s = true → rest.length ≤ 6 →
     flag.getLsbD 0 = true →
     (commitCheck s.tables = none → ∃ t, exec (.leaveConfigureCommit (flag :: rest)) s = .next t ∧
       let orphan (r : FaultRecord) : Bool := (s.tables.faults.at r.fault).isNone
       t.mgmt = { s.mgmt with inbox := .working (.commit (s.memory.records.filter orphan).length) } ∧
       t.memory.records = s.memory.records.filter (fun r => !orphan r) ∧
       (∀ r ∈ s.memory.records, orphan r = true → t.tx.notices.at r.fault = true ∧ t.memory.dirty = true) ∧
       t.store.op = some ⟨.tablesWrite, 0⟩ ∧ t.store.memory = s.store.memory ∧
       t.store.tables = regionBeginWrite tablesSize s.tables.content s.store.tables ∧
       t.tx.response = s.tx.response ∧ t.ride = s.ride ∧ t.tables = s.tables ∧
       (if ∃ r ∈ s.memory.records, orphan r = true then
         t.lamps = (updateLamps { t with lamps := s.lamps }).lamps else t.lamps = s.lamps)) ∧
     (∀ x, commitCheck s.tables = some x → exec (.leaveConfigureCommit (flag :: rest)) s =
       .next (runSelector { s with
         tx := { s.tx with response := some ⟨0x41, .badEntry,
           [byteOf x.reason.code, byteOf x.table.code, x.index]⟩ },
         mgmt := { s.mgmt with inbox := .answered } }))) ∧
  (∀ (s : State) (flag : Byte) (rest : List Byte), configuring s = true → rest.length ≤ 6 →
     flag.getLsbD 0 = false →
     exec (.leaveConfigureAbandon (flag :: rest)) s =
       .next (runSelector { s with
         mgmt := { s.mgmt with inbox := .working .abandon },
         store := { s.store with op := some ⟨.reload, 0⟩ } }))

/-- The commit checks pass exactly the table sets of R180: every signal on a non-empty watch entry and within its
length, at most 8 signals on each, ENGINE_STATE and VEHICLE_SPEED held, every vote member a non-empty signal, every
fault's source and capture list non-empty entries, and aging rides 0 or not below the lamp-off rides. Where they do not
pass, the failure reported is the first in the order of R180: the signals in ascending index, each by reference, field
position and signal count, then the roles, the vote rules in ascending index, and the faults in ascending number, each
by reference and aging. -/
def Obligations.CommitChecksTables : Prop :=
  ∀ t : Tables, (commitCheck t = none ↔
    (∀ i e, t.signals.at i = some e → ∃ w, t.watch.at e.watch = some w ∧
      e.startBit + e.length ≤ 8 * w.expectedLength ∧
      ((List.finRange 64).filter fun j =>
        (t.signals.at j).any fun x => x.watch == e.watch).length ≤ 8) ∧
    (∃ i e, t.signals.at i = some e ∧ e.role = .engineState) ∧
    (∃ i e, t.signals.at i = some e ∧ e.role = .vehicleSpeed) ∧
    (∀ k r, t.votes.at k = some r → t.signals.at r.memberA ≠ none ∧ t.signals.at r.memberB ≠ none ∧
      ∀ c, r.memberC = some c → t.signals.at c ≠ none) ∧
    (∀ f d, t.faults.at f = some d →
      (∀ k w, d.source = .frame k w → t.watch.at w ≠ none) ∧
      (∀ k i, d.source = .signal k i → t.signals.at i ≠ none) ∧
      (∀ k v, d.source = .vote k v → t.votes.at v ≠ none) ∧
      (∀ i ∈ d.capture, t.signals.at i ≠ none) ∧
      (d.agingRides = 0 ∨ d.lampOffRides ≤ d.agingRides))) ∧
    let badSignal (i : Fin 64) (x : Reason) : Prop := ∃ e, t.signals.at i = some e ∧
      (t.watch.at e.watch = none ∧ x = .reference ∨ ∃ w, t.watch.at e.watch = some w ∧
        (8 * w.expectedLength < e.startBit + e.length ∧ x = .fieldPosition ∨
          e.startBit + e.length ≤ 8 * w.expectedLength ∧ x = .signalCount ∧
            8 < ((List.finRange 64).filter fun j =>
              (t.signals.at j).any fun y => y.watch == e.watch).length))
    let held (role : Role) : Prop := ∃ i e, t.signals.at i = some e ∧ e.role = role
    let rolesHeld : Prop := held .engineState ∧ held .vehicleSpeed
    let badVote (k : Fin 4) : Prop := ∃ r, t.votes.at k = some r ∧
      (t.signals.at r.memberA = none ∨ t.signals.at r.memberB = none ∨
        ∃ c, r.memberC = some c ∧ t.signals.at c = none)
    let unnamed (d : FaultDef) : Prop :=
      (∃ k w, d.source = .frame k w ∧ t.watch.at w = none) ∨
      (∃ k i, d.source = .signal k i ∧ t.signals.at i = none) ∨
      (∃ k v, d.source = .vote k v ∧ t.votes.at v = none) ∨ ∃ i ∈ d.capture, t.signals.at i = none
    let badFault (f : Fin 64) (x : Reason) : Prop := ∃ d, t.faults.at f = some d ∧
      (unnamed d ∧ x = .reference ∨
        ¬unnamed d ∧ x = .aging ∧ d.agingRides ≠ 0 ∧ d.agingRides < d.lampOffRides)
    (∀ i x, badSignal i x → (∀ j y, j < i → ¬badSignal j y) →
      commitCheck t = some ⟨x, .signal, byteOf i.val⟩) ∧
    ((∀ i x, ¬badSignal i x) → ¬rolesHeld → commitCheck t = some ⟨.roleMissing, .signal, 0xFF⟩) ∧
    ((∀ i x, ¬badSignal i x) → rolesHeld → ∀ k, badVote k → (∀ j, j < k → ¬badVote j) →
      commitCheck t = some ⟨.reference, .vote, byteOf k.val⟩) ∧
    ((∀ i x, ¬badSignal i x) → rolesHeld → (∀ k, ¬badVote k) → ∀ f x, badFault f x →
      (∀ g y, g < f → ¬badFault g y) → commitCheck t = some ⟨x, .fault, byteOf (f.val + 1)⟩)

/-- STORE ENTRY of an image that decodes to a watch entry passing every check stores it, with a monitor at its
power-on values and the entry's runtime unchanged; a signal, vote rule or fault definition stored has its runtime at
the ride-start values; every other index keeps its entry, and every other block, the runtimes of the other tables
among them, stays (R10, R20, R38, R54, R57, R97, R175). A signal stored in place of the one that held ABS_REGULATING
with a value other than 0 ends the condition of the ABS_ACTIVE class (R84, R88). -/
def Obligations.StoreEntryStores : Prop :=
  ∀ (s : State) (index : Byte) (rest : List Byte), configuring s = true → rest.length ≤ 5 →
    let image (n : Nat) : List Byte := (List.range n).map fun a => Mem.read bufferFill s.mgmt.buffer a
    let answered (t : State) : Prop := t.tx.response = some ⟨0x50, .ok, []⟩ ∧
      t.mgmt = { s.mgmt with inbox := .answered } ∧ t.memory = s.memory ∧ t.store = s.store ∧
      t.watchRt = s.watchRt ∧ t.lamps = s.lamps ∧
      t = { s with
        tables := t.tables, monitors := t.monitors, signalRt := t.signalRt, voteTimers := t.voteTimers,
        faultRt := t.faultRt, mgmt := t.mgmt,
        ride := { s.ride with classes := { s.ride.classes with absActive := t.ride.classes.absActive } },
        tx := { s.tx with response := t.tx.response, attempt := t.tx.attempt } }
    let regulating (j : Fin 64) : Prop := ∃ x, s.tables.signals.at j = some x ∧ x.role = .absRegulating
    (∀ (i : Fin 32) e, index.toNat = i.val → WatchEntry.ofImage (image 17) = some e →
      watchReason s i e = none → ∃ t, exec (.storeEntry (0 :: index :: rest)) s = .next t ∧ answered t ∧
      t.tables = { s.tables with watch := s.tables.watch.put i (some e) } ∧
      t.monitors = s.monitors.put i ⟨false, 0, 0, none⟩ ∧
      t = { s with tables := t.tables, monitors := t.monitors, mgmt := t.mgmt, tx := t.tx }) ∧
    (∀ (i : Fin 64) e, index.toNat = i.val → SignalEntry.ofImage (image 17) = some e →
      signalReason s i e = none → ∃ t, exec (.storeEntry (1 :: index :: rest)) s = .next t ∧ answered t ∧
      t.tables = { s.tables with signals := s.tables.signals.put i (some e) } ∧
      t.signalRt = s.signalRt.put i ⟨none, none, 0⟩ ∧
      t = { s with tables := t.tables, signalRt := t.signalRt, ride := t.ride, mgmt := t.mgmt, tx := t.tx } ∧
      ((∀ j, regulating j → j = i) → t.ride.classes.absActive =
        if regulating i ∧ (s.signalRt.at i).value.getD 0 ≠ 0 then
          if s.tables.settings.absTail = 0 then ⟨false, none⟩ else ⟨true, some s.tables.settings.absTail⟩
        else s.ride.classes.absActive) ∧
      (¬regulating i → t.ride = s.ride)) ∧
    (∀ (k : Fin 4) e, index.toNat = k.val → VoteRule.ofImage (image 11) = some e →
      voteReason e = none → ∃ t, exec (.storeEntry (2 :: index :: rest)) s = .next t ∧ answered t ∧
      t.tables = { s.tables with votes := s.tables.votes.put k (some e) } ∧
      t.voteTimers = s.voteTimers.put k none ∧
      t = { s with tables := t.tables, voteTimers := t.voteTimers, mgmt := t.mgmt, tx := t.tx }) ∧
    (∀ (f : Fin 64) e, index.toNat = f.val + 1 → FaultDef.ofImage (image 20) = some e →
      faultReason s f e = none → ∃ t, exec (.storeEntry (3 :: index :: rest)) s = .next t ∧ answered t ∧
      t.tables = { s.tables with faults := s.tables.faults.put f (some e) } ∧
      t.faultRt = s.faultRt.put f ⟨0, .untested, false⟩ ∧
      t = { s with tables := t.tables, faultRt := t.faultRt, mgmt := t.mgmt, tx := t.tx })

/-- STORE ENTRY refuses, changing no table: a watch entry on a part identifier, or with another entry's identifier;
a signal whose role another signal holds; a fault definition whose source another definition names; an image with a
field outside its values; a layout that contradicts itself, such as a vote rule with a member named twice (R176). A
table or an index outside its range is BAD_ARGUMENT (R169, R170). The selector at the end of the event is the model's
choice (log 1). -/
def Obligations.StoreEntryRefuses : Prop :=
  ∀ (s : State) (index : Byte) (rest : List Byte), configuring s = true → rest.length ≤ 5 →
    let image (n : Nat) : List Byte := (List.range n).map fun a => Mem.read bufferFill s.mgmt.buffer a
    let refused (table : Byte) (reason : Byte) : Prop :=
      exec (.storeEntry (table :: index :: rest)) s = .next (runSelector { s with
        tx := { s.tx with response := some ⟨0x50, .badEntry, [reason, table, index]⟩ },
        mgmt := { s.mgmt with inbox := .answered } })
    (∀ i : Fin 32, index.toNat = i.val →
      (WatchEntry.ofImage (image 17) = none → refused 0 1) ∧
      ∀ e, WatchEntry.ofImage (image 17) = some e →
        (e.consistent = false → refused 0 2) ∧
        (e.consistent = true → isPartId s.strap e.identifier = true → refused 0 3) ∧
        (e.consistent = true → isPartId s.strap e.identifier = false →
          (∃ j x, j ≠ i ∧ s.tables.watch.at j = some x ∧ x.identifier = e.identifier) →
          refused 0 4)) ∧
    (∀ i : Fin 64, index.toNat = i.val →
      (SignalEntry.ofImage (image 17) = none → refused 1 1) ∧
      ∀ e, SignalEntry.ofImage (image 17) = some e →
        (e.rangeHigh < e.rangeLow → refused 1 2) ∧
        (e.rangeLow ≤ e.rangeHigh → e.role ≠ .none →
          (∃ j x, j ≠ i ∧ s.tables.signals.at j = some x ∧ x.role = e.role) → refused 1 4)) ∧
    (∀ k : Fin 4, index.toNat = k.val →
      (VoteRule.ofImage (image 11) = none → refused 2 1) ∧
      ∀ e, VoteRule.ofImage (image 11) = some e →
        (e.memberA = e.memberB ∨ e.memberC = some e.memberA ∨ e.memberC = some e.memberB → refused 2 2)) ∧
    (∀ f : Fin 64, index.toNat = f.val + 1 →
      (FaultDef.ofImage (image 20) = none → refused 3 1) ∧
      ∀ e, FaultDef.ofImage (image 20) = some e →
        (∃ g x, g ≠ f ∧ s.tables.faults.at g = some x ∧ x.source = e.source) → refused 3 4) ∧
    (∀ table : Byte, 4 < table.toNat ∨ table = 0 ∧ 32 ≤ index.toNat ∨ table = 1 ∧ 64 ≤ index.toNat ∨
        table = 2 ∧ 4 ≤ index.toNat ∨ table = 3 ∧ (index = 0 ∨ 64 < index.toNat) ∨ table = 4 ∧ index ≠ 0 →
      exec (.storeEntry (table :: index :: rest)) s = .next (runSelector { s with
        tx := { s.tx with response := some ⟨0x50, .badArgument, []⟩ },
        mgmt := { s.mgmt with inbox := .answered } }))

/-- STORE ENTRY of SETTINGS stores each setting brought into its range and answers the number of settings that had to
be changed; a settings image of values in their ranges is stored as it is, with the answer 0 (R177). -/
def Obligations.SettingsStoredClamped : Prop :=
  ∀ (s : State) (rest : List Byte) (e : Settings), configuring s = true → rest.length ≤ 5 →
    Settings.ofImage ((List.range 24).map fun a => Mem.read bufferFill s.mgmt.buffer a) = some e →
    ∃ t, exec (.storeEntry (4 :: 0 :: rest)) s = .next t ∧
    t.tables = { s.tables with settings := t.tables.settings } ∧
    (∃ n, t.tx.response = some ⟨0x50, .ok, [n]⟩ ∧ n.toNat ≤ 12 ∧
      (n = 0 ↔ t.tables.settings = e) ∧
      let x := t.tables.settings
      n.toNat = [decide (x.ignitionBlanking ≠ e.ignitionBlanking), decide (x.crankTail ≠ e.crankTail),
        decide (x.supplyTail ≠ e.supplyTail), decide (x.absTail ≠ e.absTail),
        decide (x.portTail ≠ e.portTail), decide (x.silenceTime ≠ e.silenceTime),
        decide (x.qualifyRun ≠ e.qualifyRun), decide (x.qualifySpeed ≠ e.qualifySpeed),
        decide (x.proveOutTime ≠ e.proveOutTime), decide (x.lampStretch ≠ e.lampStretch),
        decide (x.beaconPeriod ≠ e.beaconPeriod), decide (x.noticeLevel ≠ e.noticeLevel)].count true) ∧
    let x := t.tables.settings
    (x.ignitionBlanking = min e.ignitionBlanking 10000 ∧ x.crankTail = min e.crankTail 10000 ∧
      x.supplyTail = min e.supplyTail 10000 ∧ x.absTail = min e.absTail 10000 ∧
      x.portTail = min e.portTail 10000) ∧
    (x.silenceTime = max 20 (min e.silenceTime 2000) ∧ x.qualifyRun = max 1 (min e.qualifyRun 600) ∧
      x.qualifySpeed = max 0 (min e.qualifySpeed 32767) ∧
      x.proveOutTime = max 1000 (min e.proveOutTime 5000) ∧ x.lampStretch = min e.lampStretch 5000) ∧
    ((e.beaconPeriod = 0 → x.beaconPeriod = 0) ∧
      (1 ≤ e.beaconPeriod → e.beaconPeriod ≤ 99 → x.beaconPeriod = 100) ∧
      (100 ≤ e.beaconPeriod → e.beaconPeriod ≤ 5000 →
        x.beaconPeriod ≤ e.beaconPeriod ∧ e.beaconPeriod < x.beaconPeriod + 100 ∧
          x.beaconPeriod % 100 = 0) ∧
      (5000 < e.beaconPeriod → x.beaconPeriod = 5000)) ∧
    x.noticeLevel = min e.noticeLevel 4 ∧ x.noticeEnables = e.noticeEnables

/-- FETCH ENTRY writes the entry's image into the buffer, zeros after it, and answers its length; an EMPTY entry is
answered EMPTY with the buffer as it was; no table and no runtime changes (R178). ERASE ENTRY makes the entry
EMPTY, or the settings their defaults, with the entry's runtime at its reset values, and answers OK; every other
runtime stays (R10, R20, R38, R54, R57, R97, R179, R187). Erasing the signal that held ABS_REGULATING with a value
other than 0 ends the condition of the ABS_ACTIVE class (R84, R88). A table or an index outside its range is BAD_ARGUMENT (R169, R170). The selector at the end of
the event is the model's choice (log 1). -/
def Obligations.FetchAndEraseEntryAnswer : Prop :=
  (∀ (s : State) (table index : Byte) (rest : List Byte) (entry : EntryRef), configuring s = true →
     rest.length ≤ 5 → entryRefOf table.toNat index.toNat = some entry →
     (entryImage s.tables entry = none → exec (.fetchEntry (table :: index :: rest)) s =
       .next (runSelector { s with
         tx := { s.tx with response := some ⟨0x51, .empty, []⟩ },
         mgmt := { s.mgmt with inbox := .answered } })) ∧
     (∀ image, entryImage s.tables entry = some image → ∃ u,
       exec (.fetchEntry (table :: index :: rest)) s = .next (runSelector u) ∧
       u = { s with
         tx := { s.tx with response := some ⟨0x51, .ok, [byteOf image.length]⟩ },
         mgmt := { s.mgmt with inbox := .answered, buffer := u.mgmt.buffer } } ∧
       (∀ a, a < 32 → Mem.read bufferFill u.mgmt.buffer a = image.getD a 0))) ∧
  (∀ (s : State) (index : Byte) (rest : List Byte), configuring s = true → rest.length ≤ 5 →
     let answered (t : State) : Prop := t.tx.response = some ⟨0x52, .ok, []⟩ ∧
       t.mgmt = { s.mgmt with inbox := .answered } ∧ t.memory = s.memory ∧ t.store = s.store ∧
       t = { s with
         tables := t.tables, watchRt := t.watchRt, monitors := t.monitors, signalRt := t.signalRt,
         voteTimers := t.voteTimers, faultRt := t.faultRt, mgmt := t.mgmt,
         ride := { s.ride with classes := { s.ride.classes with absActive := t.ride.classes.absActive } },
         tx := { s.tx with response := t.tx.response, attempt := t.tx.attempt } }
     let regulating (j : Fin 64) : Prop := ∃ x, s.tables.signals.at j = some x ∧ x.role = .absRegulating
     (∀ i : Fin 32, index.toNat = i.val → ∃ t, exec (.eraseEntry (0 :: index :: rest)) s = .next t ∧
       answered t ∧ t.tables = { s.tables with watch := s.tables.watch.put i none } ∧
       t.monitors = s.monitors.put i ⟨false, 0, 0, none⟩ ∧
       t.watchRt = s.watchRt.put i ⟨.never, none, none⟩ ∧
       t = { s with
         tables := t.tables, monitors := t.monitors, watchRt := t.watchRt, mgmt := t.mgmt, tx := t.tx }) ∧
     (∀ i : Fin 64, index.toNat = i.val → ∃ t, exec (.eraseEntry (1 :: index :: rest)) s = .next t ∧
       answered t ∧ t.tables = { s.tables with signals := s.tables.signals.put i none } ∧
       t.signalRt = s.signalRt.put i ⟨none, none, 0⟩ ∧
       t = { s with
         tables := t.tables, signalRt := t.signalRt, ride := t.ride, mgmt := t.mgmt, tx := t.tx } ∧
       ((∀ j, regulating j → j = i) → t.ride.classes.absActive =
         if regulating i ∧ (s.signalRt.at i).value.getD 0 ≠ 0 then
           if s.tables.settings.absTail = 0 then ⟨false, none⟩ else ⟨true, some s.tables.settings.absTail⟩
         else s.ride.classes.absActive) ∧
       (¬regulating i → t.ride = s.ride)) ∧
     (∀ k : Fin 4, index.toNat = k.val → ∃ t, exec (.eraseEntry (2 :: index :: rest)) s = .next t ∧
       answered t ∧ t.tables = { s.tables with votes := s.tables.votes.put k none } ∧
       t.voteTimers = s.voteTimers.put k none ∧
       t = { s with tables := t.tables, voteTimers := t.voteTimers, mgmt := t.mgmt, tx := t.tx }) ∧
     (∀ f : Fin 64, index.toNat = f.val + 1 → ∃ t, exec (.eraseEntry (3 :: index :: rest)) s = .next t ∧
       answered t ∧ t.tables = { s.tables with faults := s.tables.faults.put f none } ∧
       t.faultRt = s.faultRt.put f ⟨0, .untested, false⟩ ∧
       t = { s with tables := t.tables, faultRt := t.faultRt, mgmt := t.mgmt, tx := t.tx }) ∧
     (index = 0 → ∃ t, exec (.eraseEntry (4 :: index :: rest)) s = .next t ∧ answered t ∧
       t.tables = { s.tables with settings := Settings.default } ∧
       t = { s with tables := t.tables, mgmt := t.mgmt, tx := t.tx })) ∧
  (∀ (s : State) (table index : Byte) (rest : List Byte), configuring s = true → rest.length ≤ 5 →
     4 < table.toNat ∨ table = 0 ∧ 32 ≤ index.toNat ∨ table = 1 ∧ 64 ≤ index.toNat ∨
       table = 2 ∧ 4 ≤ index.toNat ∨ table = 3 ∧ (index = 0 ∨ 64 < index.toNat) ∨ table = 4 ∧ index ≠ 0 →
     let answer (c : Byte) : State := { s with
       tx := { s.tx with response := some ⟨c, .badArgument, []⟩ },
       mgmt := { s.mgmt with inbox := .answered } }
     exec (.fetchEntry (table :: index :: rest)) s = .next (runSelector (answer 0x51)) ∧
     exec (.eraseEntry (table :: index :: rest)) s = .next (runSelector (answer 0x52)))

/-! ### Headlines -/

/-- An image that FETCH ENTRY or FETCH RECORD writes decodes to the entry it came from: watch entry, signal, vote
rule, fault definition, settings, record (R178, R194, section 12.5). -/
def Obligations.ImagesDecodeToTheirEntries : Prop :=
  (∀ e : WatchEntry, e.legal = true → WatchEntry.ofImage e.image = some e ∧ e.image.length = 17) ∧
  (∀ e : SignalEntry, e.legal = true → SignalEntry.ofImage e.image = some e ∧ e.image.length = 17) ∧
  (∀ e : VoteRule, e.legal = true → VoteRule.ofImage e.image = some e ∧ e.image.length = 11) ∧
  (∀ e : FaultDef, e.legal = true → FaultDef.ofImage e.image = some e ∧ e.image.length = 20) ∧
  (∀ e : Settings, e.clamped = e → Settings.ofImage e.image = some e ∧ e.image.length = 24) ∧
  (∀ r : FaultRecord, r.legal = true → ∀ zeros, FaultRecord.ofImage (r.image ++ List.replicate zeros 0) = some r)

/-- A region written from legal tables, or from records the memory can hold, is valid and loads back as what was
written, whatever the region held before (R137, R184, R185, R186). -/
def Obligations.RegionsLoadBack : Prop :=
  (∀ (t : Tables) (m : List Host.Cell), tablesLegal t = true →
    Mem.wf storeFill (tablesSize + 3) m = true →
    let written := regionEndWrite tablesSize (regionBeginWrite tablesSize t.content m)
    regionValid tablesSize written = true ∧
    Tables.ofContent (regionContent tablesSize written) = t ∧
    regionValid tablesSize (regionBeginWrite tablesSize t.content m) = false) ∧
  (∀ (n : Nat) (rs : List FaultRecord) (m : List Host.Cell), n ≤ 65535 → recordsLegal n rs = true →
    Mem.wf storeFill (memorySize + 3) m = true →
    let written := regionEndWrite memorySize (regionBeginWrite memorySize (memoryContent n rs) m)
    regionValid memorySize written = true ∧
    memoryOfContent (regionContent memorySize written) = (n, rs) ∧
    regionValid memorySize (regionBeginWrite memorySize (memoryContent n rs) m) = false)

/-- Every step keeps the areas in canonical form and every register within its values: table fields, port count,
monitors, signals, fault counters, ride number, filter count, run time, records (at most 20, no fault twice), error
count, queue, notice level, every timer, and the records that a commit has removed (R3, R4, R5, R8, R20, R38, R57, R69,
R77, R78, R84, R85, R97, R114, R115, R138, R152, R156, R160, R162, R177, R181). The ticks of the ride clock and of a
store operation have no greatest value. That a load of any valid region stays within them is the model's choice (logs
10, 24: unsafe for bytes the part never writes). -/
def Obligations.StepKeepsValues : Prop :=
  ∀ s t : State, areasCanonical s = true → valuesInRange s = true → step s = .next t →
    areasCanonical t = true ∧ valuesInRange t = true

/-- Every step keeps every frame the part holds within 8 bytes, and every frame on its own identifiers at exactly 8
(section 0.8, R193). -/
def Obligations.StepKeepsFrames : Prop :=
  ∀ s t : State, framesFit s = true → step s = .next t → framesFit t = true

/-- Every step keeps the monitors and vote timers RUNNING exactly while their gates are open, store operations in
their ride states, the inbox and the response in agreement, and HOLD asserted exactly outside ASLEEP
(R20 to R23, R57, R58, R71, R76, R83, R165, R167). -/
def Obligations.StepKeepsGates : Prop :=
  ∀ s t : State, operationsKept s = true → gatesKept s = true → step s = .next t →
    operationsKept t = true ∧ gatesKept t = true

/-- After every step a free transmitter has nothing to send: no response, eligible notice, forwarded frame or due
beacon waits on an idle segment (R149). The selector at the end of the event is the model's choice (log 1). -/
def Obligations.StepLeavesNothingUnsent : Prop :=
  ∀ s t : State, selectorRested s = true → step s = .next t → selectorRested t = true

/-- Every step keeps records and verdicts in agreement: no FAILING fault has a HEALED record, every verdict is UNTESTED
in SETTLING and CONFIGURE, and each verdict fits its counter (R97, R102, R124). -/
def Obligations.StepKeepsVerdicts : Prop :=
  ∀ s t : State, operationsKept s = true → tablesLegal s.tables = true → verdictsKept s = true →
    step s = .next t → verdictsKept t = true

/-- Every step keeps, in the running states, the lamp requests those of R139 and R140 and each lamp that is asked to
be lit lit, so that a CONFIRMED record of an ABS fault lights the ABS lamp (R139 to R147). -/
def Obligations.StepKeepsLampsLit : Prop :=
  (∀ s t : State, lampsKept s = true → step s = .next t → lampsKept t = true) ∧
  (∀ s : State, lampsKept s = true → s.ride.state.isRunning = true →
    ∀ r ∈ s.memory.records, r.status = .confirmed →
      ∀ d, s.tables.faults.at r.fault = some d → d.lamp = .abs → s.lamps.abs.displayed ≠ .off)

/-- The reset state meets every invariant, with nothing listed in its areas and the part ASLEEP (R82, R184; the pins
and the erased store are the model's choice, logs 6 and 7). -/
def Obligations.ResetMeetsInvariants : Prop :=
  areasCanonical State.reset = true ∧ valuesInRange State.reset = true ∧ framesFit State.reset = true ∧
  operationsKept State.reset = true ∧ gatesKept State.reset = true ∧ selectorRested State.reset = true ∧
  verdictsKept State.reset = true ∧ lampsKept State.reset = true ∧ State.reset.ride.state = .asleep ∧
  (∀ l, lampOutput State.reset l = false) ∧ State.reset.ride.hold = false ∧ State.reset.pending = []
end

