-- ==== Sys2Proof/Laws/State.lean ====
section
/-!
SUPPORT. One lemma per field per named update of State: the updated field reads the new value, every other
field reads as before.
-/

namespace Sys2Proof.Machine

variable (s : State)

@[simp] theorem State.setPending_pending (x : List Instr) : (s.setPending x).pending = x := rfl
@[simp] theorem State.setPending_inReset (x : List Instr) : (s.setPending x).inReset = s.inReset := rfl
@[simp] theorem State.setPending_pins (x : List Instr) : (s.setPending x).pins = s.pins := rfl
@[simp] theorem State.setPending_strap (x : List Instr) : (s.setPending x).strap = s.strap := rfl
@[simp] theorem State.setPending_tables (x : List Instr) : (s.setPending x).tables = s.tables := rfl
@[simp] theorem State.setPending_chassis (x : List Instr) : (s.setPending x).chassis = s.chassis := rfl
@[simp] theorem State.setPending_watchRt (x : List Instr) : (s.setPending x).watchRt = s.watchRt := rfl
@[simp] theorem State.setPending_monitors (x : List Instr) : (s.setPending x).monitors = s.monitors := rfl
@[simp] theorem State.setPending_signalRt (x : List Instr) : (s.setPending x).signalRt = s.signalRt := rfl
@[simp] theorem State.setPending_voteTimers (x : List Instr) : (s.setPending x).voteTimers = s.voteTimers := rfl
@[simp] theorem State.setPending_faultRt (x : List Instr) : (s.setPending x).faultRt = s.faultRt := rfl
@[simp] theorem State.setPending_ride (x : List Instr) : (s.setPending x).ride = s.ride := rfl
@[simp] theorem State.setPending_memory (x : List Instr) : (s.setPending x).memory = s.memory := rfl
@[simp] theorem State.setPending_lamps (x : List Instr) : (s.setPending x).lamps = s.lamps := rfl
@[simp] theorem State.setPending_tx (x : List Instr) : (s.setPending x).tx = s.tx := rfl
@[simp] theorem State.setPending_mgmt (x : List Instr) : (s.setPending x).mgmt = s.mgmt := rfl
@[simp] theorem State.setPending_store (x : List Instr) : (s.setPending x).store = s.store := rfl
@[simp] theorem State.setPending_freeUses (x : List Instr) : (s.setPending x).freeUses = s.freeUses := rfl

@[simp] theorem State.setInReset_inReset (x : Bool) : (s.setInReset x).inReset = x := rfl
@[simp] theorem State.setInReset_pending (x : Bool) : (s.setInReset x).pending = s.pending := rfl
@[simp] theorem State.setInReset_pins (x : Bool) : (s.setInReset x).pins = s.pins := rfl
@[simp] theorem State.setInReset_strap (x : Bool) : (s.setInReset x).strap = s.strap := rfl
@[simp] theorem State.setInReset_tables (x : Bool) : (s.setInReset x).tables = s.tables := rfl
@[simp] theorem State.setInReset_chassis (x : Bool) : (s.setInReset x).chassis = s.chassis := rfl
@[simp] theorem State.setInReset_watchRt (x : Bool) : (s.setInReset x).watchRt = s.watchRt := rfl
@[simp] theorem State.setInReset_monitors (x : Bool) : (s.setInReset x).monitors = s.monitors := rfl
@[simp] theorem State.setInReset_signalRt (x : Bool) : (s.setInReset x).signalRt = s.signalRt := rfl
@[simp] theorem State.setInReset_voteTimers (x : Bool) : (s.setInReset x).voteTimers = s.voteTimers := rfl
@[simp] theorem State.setInReset_faultRt (x : Bool) : (s.setInReset x).faultRt = s.faultRt := rfl
@[simp] theorem State.setInReset_ride (x : Bool) : (s.setInReset x).ride = s.ride := rfl
@[simp] theorem State.setInReset_memory (x : Bool) : (s.setInReset x).memory = s.memory := rfl
@[simp] theorem State.setInReset_lamps (x : Bool) : (s.setInReset x).lamps = s.lamps := rfl
@[simp] theorem State.setInReset_tx (x : Bool) : (s.setInReset x).tx = s.tx := rfl
@[simp] theorem State.setInReset_mgmt (x : Bool) : (s.setInReset x).mgmt = s.mgmt := rfl
@[simp] theorem State.setInReset_store (x : Bool) : (s.setInReset x).store = s.store := rfl
@[simp] theorem State.setInReset_freeUses (x : Bool) : (s.setInReset x).freeUses = s.freeUses := rfl

@[simp] theorem State.setPins_pins (x : Pins) : (s.setPins x).pins = x := rfl
@[simp] theorem State.setPins_pending (x : Pins) : (s.setPins x).pending = s.pending := rfl
@[simp] theorem State.setPins_inReset (x : Pins) : (s.setPins x).inReset = s.inReset := rfl
@[simp] theorem State.setPins_strap (x : Pins) : (s.setPins x).strap = s.strap := rfl
@[simp] theorem State.setPins_tables (x : Pins) : (s.setPins x).tables = s.tables := rfl
@[simp] theorem State.setPins_chassis (x : Pins) : (s.setPins x).chassis = s.chassis := rfl
@[simp] theorem State.setPins_watchRt (x : Pins) : (s.setPins x).watchRt = s.watchRt := rfl
@[simp] theorem State.setPins_monitors (x : Pins) : (s.setPins x).monitors = s.monitors := rfl
@[simp] theorem State.setPins_signalRt (x : Pins) : (s.setPins x).signalRt = s.signalRt := rfl
@[simp] theorem State.setPins_voteTimers (x : Pins) : (s.setPins x).voteTimers = s.voteTimers := rfl
@[simp] theorem State.setPins_faultRt (x : Pins) : (s.setPins x).faultRt = s.faultRt := rfl
@[simp] theorem State.setPins_ride (x : Pins) : (s.setPins x).ride = s.ride := rfl
@[simp] theorem State.setPins_memory (x : Pins) : (s.setPins x).memory = s.memory := rfl
@[simp] theorem State.setPins_lamps (x : Pins) : (s.setPins x).lamps = s.lamps := rfl
@[simp] theorem State.setPins_tx (x : Pins) : (s.setPins x).tx = s.tx := rfl
@[simp] theorem State.setPins_mgmt (x : Pins) : (s.setPins x).mgmt = s.mgmt := rfl
@[simp] theorem State.setPins_store (x : Pins) : (s.setPins x).store = s.store := rfl
@[simp] theorem State.setPins_freeUses (x : Pins) : (s.setPins x).freeUses = s.freeUses := rfl

@[simp] theorem State.setStrap_strap (x : Fin 4) : (s.setStrap x).strap = x := rfl
@[simp] theorem State.setStrap_pending (x : Fin 4) : (s.setStrap x).pending = s.pending := rfl
@[simp] theorem State.setStrap_inReset (x : Fin 4) : (s.setStrap x).inReset = s.inReset := rfl
@[simp] theorem State.setStrap_pins (x : Fin 4) : (s.setStrap x).pins = s.pins := rfl
@[simp] theorem State.setStrap_tables (x : Fin 4) : (s.setStrap x).tables = s.tables := rfl
@[simp] theorem State.setStrap_chassis (x : Fin 4) : (s.setStrap x).chassis = s.chassis := rfl
@[simp] theorem State.setStrap_watchRt (x : Fin 4) : (s.setStrap x).watchRt = s.watchRt := rfl
@[simp] theorem State.setStrap_monitors (x : Fin 4) : (s.setStrap x).monitors = s.monitors := rfl
@[simp] theorem State.setStrap_signalRt (x : Fin 4) : (s.setStrap x).signalRt = s.signalRt := rfl
@[simp] theorem State.setStrap_voteTimers (x : Fin 4) : (s.setStrap x).voteTimers = s.voteTimers := rfl
@[simp] theorem State.setStrap_faultRt (x : Fin 4) : (s.setStrap x).faultRt = s.faultRt := rfl
@[simp] theorem State.setStrap_ride (x : Fin 4) : (s.setStrap x).ride = s.ride := rfl
@[simp] theorem State.setStrap_memory (x : Fin 4) : (s.setStrap x).memory = s.memory := rfl
@[simp] theorem State.setStrap_lamps (x : Fin 4) : (s.setStrap x).lamps = s.lamps := rfl
@[simp] theorem State.setStrap_tx (x : Fin 4) : (s.setStrap x).tx = s.tx := rfl
@[simp] theorem State.setStrap_mgmt (x : Fin 4) : (s.setStrap x).mgmt = s.mgmt := rfl
@[simp] theorem State.setStrap_store (x : Fin 4) : (s.setStrap x).store = s.store := rfl
@[simp] theorem State.setStrap_freeUses (x : Fin 4) : (s.setStrap x).freeUses = s.freeUses := rfl

@[simp] theorem State.setTables_tables (x : Tables) : (s.setTables x).tables = x := rfl
@[simp] theorem State.setTables_pending (x : Tables) : (s.setTables x).pending = s.pending := rfl
@[simp] theorem State.setTables_inReset (x : Tables) : (s.setTables x).inReset = s.inReset := rfl
@[simp] theorem State.setTables_pins (x : Tables) : (s.setTables x).pins = s.pins := rfl
@[simp] theorem State.setTables_strap (x : Tables) : (s.setTables x).strap = s.strap := rfl
@[simp] theorem State.setTables_chassis (x : Tables) : (s.setTables x).chassis = s.chassis := rfl
@[simp] theorem State.setTables_watchRt (x : Tables) : (s.setTables x).watchRt = s.watchRt := rfl
@[simp] theorem State.setTables_monitors (x : Tables) : (s.setTables x).monitors = s.monitors := rfl
@[simp] theorem State.setTables_signalRt (x : Tables) : (s.setTables x).signalRt = s.signalRt := rfl
@[simp] theorem State.setTables_voteTimers (x : Tables) : (s.setTables x).voteTimers = s.voteTimers := rfl
@[simp] theorem State.setTables_faultRt (x : Tables) : (s.setTables x).faultRt = s.faultRt := rfl
@[simp] theorem State.setTables_ride (x : Tables) : (s.setTables x).ride = s.ride := rfl
@[simp] theorem State.setTables_memory (x : Tables) : (s.setTables x).memory = s.memory := rfl
@[simp] theorem State.setTables_lamps (x : Tables) : (s.setTables x).lamps = s.lamps := rfl
@[simp] theorem State.setTables_tx (x : Tables) : (s.setTables x).tx = s.tx := rfl
@[simp] theorem State.setTables_mgmt (x : Tables) : (s.setTables x).mgmt = s.mgmt := rfl
@[simp] theorem State.setTables_store (x : Tables) : (s.setTables x).store = s.store := rfl
@[simp] theorem State.setTables_freeUses (x : Tables) : (s.setTables x).freeUses = s.freeUses := rfl

@[simp] theorem State.setChassis_chassis (x : ChassisPort) : (s.setChassis x).chassis = x := rfl
@[simp] theorem State.setChassis_pending (x : ChassisPort) : (s.setChassis x).pending = s.pending := rfl
@[simp] theorem State.setChassis_inReset (x : ChassisPort) : (s.setChassis x).inReset = s.inReset := rfl
@[simp] theorem State.setChassis_pins (x : ChassisPort) : (s.setChassis x).pins = s.pins := rfl
@[simp] theorem State.setChassis_strap (x : ChassisPort) : (s.setChassis x).strap = s.strap := rfl
@[simp] theorem State.setChassis_tables (x : ChassisPort) : (s.setChassis x).tables = s.tables := rfl
@[simp] theorem State.setChassis_watchRt (x : ChassisPort) : (s.setChassis x).watchRt = s.watchRt := rfl
@[simp] theorem State.setChassis_monitors (x : ChassisPort) : (s.setChassis x).monitors = s.monitors := rfl
@[simp] theorem State.setChassis_signalRt (x : ChassisPort) : (s.setChassis x).signalRt = s.signalRt := rfl
@[simp] theorem State.setChassis_voteTimers (x : ChassisPort) : (s.setChassis x).voteTimers = s.voteTimers := rfl
@[simp] theorem State.setChassis_faultRt (x : ChassisPort) : (s.setChassis x).faultRt = s.faultRt := rfl
@[simp] theorem State.setChassis_ride (x : ChassisPort) : (s.setChassis x).ride = s.ride := rfl
@[simp] theorem State.setChassis_memory (x : ChassisPort) : (s.setChassis x).memory = s.memory := rfl
@[simp] theorem State.setChassis_lamps (x : ChassisPort) : (s.setChassis x).lamps = s.lamps := rfl
@[simp] theorem State.setChassis_tx (x : ChassisPort) : (s.setChassis x).tx = s.tx := rfl
@[simp] theorem State.setChassis_mgmt (x : ChassisPort) : (s.setChassis x).mgmt = s.mgmt := rfl
@[simp] theorem State.setChassis_store (x : ChassisPort) : (s.setChassis x).store = s.store := rfl
@[simp] theorem State.setChassis_freeUses (x : ChassisPort) : (s.setChassis x).freeUses = s.freeUses := rfl

@[simp] theorem State.setWatchRt_watchRt (x : Table WatchRuntime 32) : (s.setWatchRt x).watchRt = x := rfl
@[simp] theorem State.setWatchRt_pending (x : Table WatchRuntime 32) : (s.setWatchRt x).pending = s.pending := rfl
@[simp] theorem State.setWatchRt_inReset (x : Table WatchRuntime 32) : (s.setWatchRt x).inReset = s.inReset := rfl
@[simp] theorem State.setWatchRt_pins (x : Table WatchRuntime 32) : (s.setWatchRt x).pins = s.pins := rfl
@[simp] theorem State.setWatchRt_strap (x : Table WatchRuntime 32) : (s.setWatchRt x).strap = s.strap := rfl
@[simp] theorem State.setWatchRt_tables (x : Table WatchRuntime 32) : (s.setWatchRt x).tables = s.tables := rfl
@[simp] theorem State.setWatchRt_chassis (x : Table WatchRuntime 32) : (s.setWatchRt x).chassis = s.chassis := rfl
@[simp] theorem State.setWatchRt_monitors (x : Table WatchRuntime 32) : (s.setWatchRt x).monitors = s.monitors := rfl
@[simp] theorem State.setWatchRt_signalRt (x : Table WatchRuntime 32) : (s.setWatchRt x).signalRt = s.signalRt := rfl
@[simp] theorem State.setWatchRt_voteTimers (x : Table WatchRuntime 32) : (s.setWatchRt x).voteTimers = s.voteTimers := rfl
@[simp] theorem State.setWatchRt_faultRt (x : Table WatchRuntime 32) : (s.setWatchRt x).faultRt = s.faultRt := rfl
@[simp] theorem State.setWatchRt_ride (x : Table WatchRuntime 32) : (s.setWatchRt x).ride = s.ride := rfl
@[simp] theorem State.setWatchRt_memory (x : Table WatchRuntime 32) : (s.setWatchRt x).memory = s.memory := rfl
@[simp] theorem State.setWatchRt_lamps (x : Table WatchRuntime 32) : (s.setWatchRt x).lamps = s.lamps := rfl
@[simp] theorem State.setWatchRt_tx (x : Table WatchRuntime 32) : (s.setWatchRt x).tx = s.tx := rfl
@[simp] theorem State.setWatchRt_mgmt (x : Table WatchRuntime 32) : (s.setWatchRt x).mgmt = s.mgmt := rfl
@[simp] theorem State.setWatchRt_store (x : Table WatchRuntime 32) : (s.setWatchRt x).store = s.store := rfl
@[simp] theorem State.setWatchRt_freeUses (x : Table WatchRuntime 32) : (s.setWatchRt x).freeUses = s.freeUses := rfl

@[simp] theorem State.setMonitors_monitors (x : Table Monitor 32) : (s.setMonitors x).monitors = x := rfl
@[simp] theorem State.setMonitors_pending (x : Table Monitor 32) : (s.setMonitors x).pending = s.pending := rfl
@[simp] theorem State.setMonitors_inReset (x : Table Monitor 32) : (s.setMonitors x).inReset = s.inReset := rfl
@[simp] theorem State.setMonitors_pins (x : Table Monitor 32) : (s.setMonitors x).pins = s.pins := rfl
@[simp] theorem State.setMonitors_strap (x : Table Monitor 32) : (s.setMonitors x).strap = s.strap := rfl
@[simp] theorem State.setMonitors_tables (x : Table Monitor 32) : (s.setMonitors x).tables = s.tables := rfl
@[simp] theorem State.setMonitors_chassis (x : Table Monitor 32) : (s.setMonitors x).chassis = s.chassis := rfl
@[simp] theorem State.setMonitors_watchRt (x : Table Monitor 32) : (s.setMonitors x).watchRt = s.watchRt := rfl
@[simp] theorem State.setMonitors_signalRt (x : Table Monitor 32) : (s.setMonitors x).signalRt = s.signalRt := rfl
@[simp] theorem State.setMonitors_voteTimers (x : Table Monitor 32) : (s.setMonitors x).voteTimers = s.voteTimers := rfl
@[simp] theorem State.setMonitors_faultRt (x : Table Monitor 32) : (s.setMonitors x).faultRt = s.faultRt := rfl
@[simp] theorem State.setMonitors_ride (x : Table Monitor 32) : (s.setMonitors x).ride = s.ride := rfl
@[simp] theorem State.setMonitors_memory (x : Table Monitor 32) : (s.setMonitors x).memory = s.memory := rfl
@[simp] theorem State.setMonitors_lamps (x : Table Monitor 32) : (s.setMonitors x).lamps = s.lamps := rfl
@[simp] theorem State.setMonitors_tx (x : Table Monitor 32) : (s.setMonitors x).tx = s.tx := rfl
@[simp] theorem State.setMonitors_mgmt (x : Table Monitor 32) : (s.setMonitors x).mgmt = s.mgmt := rfl
@[simp] theorem State.setMonitors_store (x : Table Monitor 32) : (s.setMonitors x).store = s.store := rfl
@[simp] theorem State.setMonitors_freeUses (x : Table Monitor 32) : (s.setMonitors x).freeUses = s.freeUses := rfl

@[simp] theorem State.setSignalRt_signalRt (x : Table SignalRuntime 64) : (s.setSignalRt x).signalRt = x := rfl
@[simp] theorem State.setSignalRt_pending (x : Table SignalRuntime 64) : (s.setSignalRt x).pending = s.pending := rfl
@[simp] theorem State.setSignalRt_inReset (x : Table SignalRuntime 64) : (s.setSignalRt x).inReset = s.inReset := rfl
@[simp] theorem State.setSignalRt_pins (x : Table SignalRuntime 64) : (s.setSignalRt x).pins = s.pins := rfl
@[simp] theorem State.setSignalRt_strap (x : Table SignalRuntime 64) : (s.setSignalRt x).strap = s.strap := rfl
@[simp] theorem State.setSignalRt_tables (x : Table SignalRuntime 64) : (s.setSignalRt x).tables = s.tables := rfl
@[simp] theorem State.setSignalRt_chassis (x : Table SignalRuntime 64) : (s.setSignalRt x).chassis = s.chassis := rfl
@[simp] theorem State.setSignalRt_watchRt (x : Table SignalRuntime 64) : (s.setSignalRt x).watchRt = s.watchRt := rfl
@[simp] theorem State.setSignalRt_monitors (x : Table SignalRuntime 64) : (s.setSignalRt x).monitors = s.monitors := rfl
@[simp] theorem State.setSignalRt_voteTimers (x : Table SignalRuntime 64) : (s.setSignalRt x).voteTimers = s.voteTimers := rfl
@[simp] theorem State.setSignalRt_faultRt (x : Table SignalRuntime 64) : (s.setSignalRt x).faultRt = s.faultRt := rfl
@[simp] theorem State.setSignalRt_ride (x : Table SignalRuntime 64) : (s.setSignalRt x).ride = s.ride := rfl
@[simp] theorem State.setSignalRt_memory (x : Table SignalRuntime 64) : (s.setSignalRt x).memory = s.memory := rfl
@[simp] theorem State.setSignalRt_lamps (x : Table SignalRuntime 64) : (s.setSignalRt x).lamps = s.lamps := rfl
@[simp] theorem State.setSignalRt_tx (x : Table SignalRuntime 64) : (s.setSignalRt x).tx = s.tx := rfl
@[simp] theorem State.setSignalRt_mgmt (x : Table SignalRuntime 64) : (s.setSignalRt x).mgmt = s.mgmt := rfl
@[simp] theorem State.setSignalRt_store (x : Table SignalRuntime 64) : (s.setSignalRt x).store = s.store := rfl
@[simp] theorem State.setSignalRt_freeUses (x : Table SignalRuntime 64) : (s.setSignalRt x).freeUses = s.freeUses := rfl

@[simp] theorem State.setVoteTimers_voteTimers (x : Table (Option Nat) 4) : (s.setVoteTimers x).voteTimers = x := rfl
@[simp] theorem State.setVoteTimers_pending (x : Table (Option Nat) 4) : (s.setVoteTimers x).pending = s.pending := rfl
@[simp] theorem State.setVoteTimers_inReset (x : Table (Option Nat) 4) : (s.setVoteTimers x).inReset = s.inReset := rfl
@[simp] theorem State.setVoteTimers_pins (x : Table (Option Nat) 4) : (s.setVoteTimers x).pins = s.pins := rfl
@[simp] theorem State.setVoteTimers_strap (x : Table (Option Nat) 4) : (s.setVoteTimers x).strap = s.strap := rfl
@[simp] theorem State.setVoteTimers_tables (x : Table (Option Nat) 4) : (s.setVoteTimers x).tables = s.tables := rfl
@[simp] theorem State.setVoteTimers_chassis (x : Table (Option Nat) 4) : (s.setVoteTimers x).chassis = s.chassis := rfl
@[simp] theorem State.setVoteTimers_watchRt (x : Table (Option Nat) 4) : (s.setVoteTimers x).watchRt = s.watchRt := rfl
@[simp] theorem State.setVoteTimers_monitors (x : Table (Option Nat) 4) : (s.setVoteTimers x).monitors = s.monitors := rfl
@[simp] theorem State.setVoteTimers_signalRt (x : Table (Option Nat) 4) : (s.setVoteTimers x).signalRt = s.signalRt := rfl
@[simp] theorem State.setVoteTimers_faultRt (x : Table (Option Nat) 4) : (s.setVoteTimers x).faultRt = s.faultRt := rfl
@[simp] theorem State.setVoteTimers_ride (x : Table (Option Nat) 4) : (s.setVoteTimers x).ride = s.ride := rfl
@[simp] theorem State.setVoteTimers_memory (x : Table (Option Nat) 4) : (s.setVoteTimers x).memory = s.memory := rfl
@[simp] theorem State.setVoteTimers_lamps (x : Table (Option Nat) 4) : (s.setVoteTimers x).lamps = s.lamps := rfl
@[simp] theorem State.setVoteTimers_tx (x : Table (Option Nat) 4) : (s.setVoteTimers x).tx = s.tx := rfl
@[simp] theorem State.setVoteTimers_mgmt (x : Table (Option Nat) 4) : (s.setVoteTimers x).mgmt = s.mgmt := rfl
@[simp] theorem State.setVoteTimers_store (x : Table (Option Nat) 4) : (s.setVoteTimers x).store = s.store := rfl
@[simp] theorem State.setVoteTimers_freeUses (x : Table (Option Nat) 4) : (s.setVoteTimers x).freeUses = s.freeUses := rfl

@[simp] theorem State.setFaultRt_faultRt (x : Table FaultRuntime 64) : (s.setFaultRt x).faultRt = x := rfl
@[simp] theorem State.setFaultRt_pending (x : Table FaultRuntime 64) : (s.setFaultRt x).pending = s.pending := rfl
@[simp] theorem State.setFaultRt_inReset (x : Table FaultRuntime 64) : (s.setFaultRt x).inReset = s.inReset := rfl
@[simp] theorem State.setFaultRt_pins (x : Table FaultRuntime 64) : (s.setFaultRt x).pins = s.pins := rfl
@[simp] theorem State.setFaultRt_strap (x : Table FaultRuntime 64) : (s.setFaultRt x).strap = s.strap := rfl
@[simp] theorem State.setFaultRt_tables (x : Table FaultRuntime 64) : (s.setFaultRt x).tables = s.tables := rfl
@[simp] theorem State.setFaultRt_chassis (x : Table FaultRuntime 64) : (s.setFaultRt x).chassis = s.chassis := rfl
@[simp] theorem State.setFaultRt_watchRt (x : Table FaultRuntime 64) : (s.setFaultRt x).watchRt = s.watchRt := rfl
@[simp] theorem State.setFaultRt_monitors (x : Table FaultRuntime 64) : (s.setFaultRt x).monitors = s.monitors := rfl
@[simp] theorem State.setFaultRt_signalRt (x : Table FaultRuntime 64) : (s.setFaultRt x).signalRt = s.signalRt := rfl
@[simp] theorem State.setFaultRt_voteTimers (x : Table FaultRuntime 64) : (s.setFaultRt x).voteTimers = s.voteTimers := rfl
@[simp] theorem State.setFaultRt_ride (x : Table FaultRuntime 64) : (s.setFaultRt x).ride = s.ride := rfl
@[simp] theorem State.setFaultRt_memory (x : Table FaultRuntime 64) : (s.setFaultRt x).memory = s.memory := rfl
@[simp] theorem State.setFaultRt_lamps (x : Table FaultRuntime 64) : (s.setFaultRt x).lamps = s.lamps := rfl
@[simp] theorem State.setFaultRt_tx (x : Table FaultRuntime 64) : (s.setFaultRt x).tx = s.tx := rfl
@[simp] theorem State.setFaultRt_mgmt (x : Table FaultRuntime 64) : (s.setFaultRt x).mgmt = s.mgmt := rfl
@[simp] theorem State.setFaultRt_store (x : Table FaultRuntime 64) : (s.setFaultRt x).store = s.store := rfl
@[simp] theorem State.setFaultRt_freeUses (x : Table FaultRuntime 64) : (s.setFaultRt x).freeUses = s.freeUses := rfl

@[simp] theorem State.setRide_ride (x : RideController) : (s.setRide x).ride = x := rfl
@[simp] theorem State.setRide_pending (x : RideController) : (s.setRide x).pending = s.pending := rfl
@[simp] theorem State.setRide_inReset (x : RideController) : (s.setRide x).inReset = s.inReset := rfl
@[simp] theorem State.setRide_pins (x : RideController) : (s.setRide x).pins = s.pins := rfl
@[simp] theorem State.setRide_strap (x : RideController) : (s.setRide x).strap = s.strap := rfl
@[simp] theorem State.setRide_tables (x : RideController) : (s.setRide x).tables = s.tables := rfl
@[simp] theorem State.setRide_chassis (x : RideController) : (s.setRide x).chassis = s.chassis := rfl
@[simp] theorem State.setRide_watchRt (x : RideController) : (s.setRide x).watchRt = s.watchRt := rfl
@[simp] theorem State.setRide_monitors (x : RideController) : (s.setRide x).monitors = s.monitors := rfl
@[simp] theorem State.setRide_signalRt (x : RideController) : (s.setRide x).signalRt = s.signalRt := rfl
@[simp] theorem State.setRide_voteTimers (x : RideController) : (s.setRide x).voteTimers = s.voteTimers := rfl
@[simp] theorem State.setRide_faultRt (x : RideController) : (s.setRide x).faultRt = s.faultRt := rfl
@[simp] theorem State.setRide_memory (x : RideController) : (s.setRide x).memory = s.memory := rfl
@[simp] theorem State.setRide_lamps (x : RideController) : (s.setRide x).lamps = s.lamps := rfl
@[simp] theorem State.setRide_tx (x : RideController) : (s.setRide x).tx = s.tx := rfl
@[simp] theorem State.setRide_mgmt (x : RideController) : (s.setRide x).mgmt = s.mgmt := rfl
@[simp] theorem State.setRide_store (x : RideController) : (s.setRide x).store = s.store := rfl
@[simp] theorem State.setRide_freeUses (x : RideController) : (s.setRide x).freeUses = s.freeUses := rfl

@[simp] theorem State.setMemory_memory (x : FaultMemory) : (s.setMemory x).memory = x := rfl
@[simp] theorem State.setMemory_pending (x : FaultMemory) : (s.setMemory x).pending = s.pending := rfl
@[simp] theorem State.setMemory_inReset (x : FaultMemory) : (s.setMemory x).inReset = s.inReset := rfl
@[simp] theorem State.setMemory_pins (x : FaultMemory) : (s.setMemory x).pins = s.pins := rfl
@[simp] theorem State.setMemory_strap (x : FaultMemory) : (s.setMemory x).strap = s.strap := rfl
@[simp] theorem State.setMemory_tables (x : FaultMemory) : (s.setMemory x).tables = s.tables := rfl
@[simp] theorem State.setMemory_chassis (x : FaultMemory) : (s.setMemory x).chassis = s.chassis := rfl
@[simp] theorem State.setMemory_watchRt (x : FaultMemory) : (s.setMemory x).watchRt = s.watchRt := rfl
@[simp] theorem State.setMemory_monitors (x : FaultMemory) : (s.setMemory x).monitors = s.monitors := rfl
@[simp] theorem State.setMemory_signalRt (x : FaultMemory) : (s.setMemory x).signalRt = s.signalRt := rfl
@[simp] theorem State.setMemory_voteTimers (x : FaultMemory) : (s.setMemory x).voteTimers = s.voteTimers := rfl
@[simp] theorem State.setMemory_faultRt (x : FaultMemory) : (s.setMemory x).faultRt = s.faultRt := rfl
@[simp] theorem State.setMemory_ride (x : FaultMemory) : (s.setMemory x).ride = s.ride := rfl
@[simp] theorem State.setMemory_lamps (x : FaultMemory) : (s.setMemory x).lamps = s.lamps := rfl
@[simp] theorem State.setMemory_tx (x : FaultMemory) : (s.setMemory x).tx = s.tx := rfl
@[simp] theorem State.setMemory_mgmt (x : FaultMemory) : (s.setMemory x).mgmt = s.mgmt := rfl
@[simp] theorem State.setMemory_store (x : FaultMemory) : (s.setMemory x).store = s.store := rfl
@[simp] theorem State.setMemory_freeUses (x : FaultMemory) : (s.setMemory x).freeUses = s.freeUses := rfl

@[simp] theorem State.setLamps_lamps (x : LampDriver) : (s.setLamps x).lamps = x := rfl
@[simp] theorem State.setLamps_pending (x : LampDriver) : (s.setLamps x).pending = s.pending := rfl
@[simp] theorem State.setLamps_inReset (x : LampDriver) : (s.setLamps x).inReset = s.inReset := rfl
@[simp] theorem State.setLamps_pins (x : LampDriver) : (s.setLamps x).pins = s.pins := rfl
@[simp] theorem State.setLamps_strap (x : LampDriver) : (s.setLamps x).strap = s.strap := rfl
@[simp] theorem State.setLamps_tables (x : LampDriver) : (s.setLamps x).tables = s.tables := rfl
@[simp] theorem State.setLamps_chassis (x : LampDriver) : (s.setLamps x).chassis = s.chassis := rfl
@[simp] theorem State.setLamps_watchRt (x : LampDriver) : (s.setLamps x).watchRt = s.watchRt := rfl
@[simp] theorem State.setLamps_monitors (x : LampDriver) : (s.setLamps x).monitors = s.monitors := rfl
@[simp] theorem State.setLamps_signalRt (x : LampDriver) : (s.setLamps x).signalRt = s.signalRt := rfl
@[simp] theorem State.setLamps_voteTimers (x : LampDriver) : (s.setLamps x).voteTimers = s.voteTimers := rfl
@[simp] theorem State.setLamps_faultRt (x : LampDriver) : (s.setLamps x).faultRt = s.faultRt := rfl
@[simp] theorem State.setLamps_ride (x : LampDriver) : (s.setLamps x).ride = s.ride := rfl
@[simp] theorem State.setLamps_memory (x : LampDriver) : (s.setLamps x).memory = s.memory := rfl
@[simp] theorem State.setLamps_tx (x : LampDriver) : (s.setLamps x).tx = s.tx := rfl
@[simp] theorem State.setLamps_mgmt (x : LampDriver) : (s.setLamps x).mgmt = s.mgmt := rfl
@[simp] theorem State.setLamps_store (x : LampDriver) : (s.setLamps x).store = s.store := rfl
@[simp] theorem State.setLamps_freeUses (x : LampDriver) : (s.setLamps x).freeUses = s.freeUses := rfl

@[simp] theorem State.setTx_tx (x : Transmitter) : (s.setTx x).tx = x := rfl
@[simp] theorem State.setTx_pending (x : Transmitter) : (s.setTx x).pending = s.pending := rfl
@[simp] theorem State.setTx_inReset (x : Transmitter) : (s.setTx x).inReset = s.inReset := rfl
@[simp] theorem State.setTx_pins (x : Transmitter) : (s.setTx x).pins = s.pins := rfl
@[simp] theorem State.setTx_strap (x : Transmitter) : (s.setTx x).strap = s.strap := rfl
@[simp] theorem State.setTx_tables (x : Transmitter) : (s.setTx x).tables = s.tables := rfl
@[simp] theorem State.setTx_chassis (x : Transmitter) : (s.setTx x).chassis = s.chassis := rfl
@[simp] theorem State.setTx_watchRt (x : Transmitter) : (s.setTx x).watchRt = s.watchRt := rfl
@[simp] theorem State.setTx_monitors (x : Transmitter) : (s.setTx x).monitors = s.monitors := rfl
@[simp] theorem State.setTx_signalRt (x : Transmitter) : (s.setTx x).signalRt = s.signalRt := rfl
@[simp] theorem State.setTx_voteTimers (x : Transmitter) : (s.setTx x).voteTimers = s.voteTimers := rfl
@[simp] theorem State.setTx_faultRt (x : Transmitter) : (s.setTx x).faultRt = s.faultRt := rfl
@[simp] theorem State.setTx_ride (x : Transmitter) : (s.setTx x).ride = s.ride := rfl
@[simp] theorem State.setTx_memory (x : Transmitter) : (s.setTx x).memory = s.memory := rfl
@[simp] theorem State.setTx_lamps (x : Transmitter) : (s.setTx x).lamps = s.lamps := rfl
@[simp] theorem State.setTx_mgmt (x : Transmitter) : (s.setTx x).mgmt = s.mgmt := rfl
@[simp] theorem State.setTx_store (x : Transmitter) : (s.setTx x).store = s.store := rfl
@[simp] theorem State.setTx_freeUses (x : Transmitter) : (s.setTx x).freeUses = s.freeUses := rfl

@[simp] theorem State.setMgmt_mgmt (x : ManagementEngine) : (s.setMgmt x).mgmt = x := rfl
@[simp] theorem State.setMgmt_pending (x : ManagementEngine) : (s.setMgmt x).pending = s.pending := rfl
@[simp] theorem State.setMgmt_inReset (x : ManagementEngine) : (s.setMgmt x).inReset = s.inReset := rfl
@[simp] theorem State.setMgmt_pins (x : ManagementEngine) : (s.setMgmt x).pins = s.pins := rfl
@[simp] theorem State.setMgmt_strap (x : ManagementEngine) : (s.setMgmt x).strap = s.strap := rfl
@[simp] theorem State.setMgmt_tables (x : ManagementEngine) : (s.setMgmt x).tables = s.tables := rfl
@[simp] theorem State.setMgmt_chassis (x : ManagementEngine) : (s.setMgmt x).chassis = s.chassis := rfl
@[simp] theorem State.setMgmt_watchRt (x : ManagementEngine) : (s.setMgmt x).watchRt = s.watchRt := rfl
@[simp] theorem State.setMgmt_monitors (x : ManagementEngine) : (s.setMgmt x).monitors = s.monitors := rfl
@[simp] theorem State.setMgmt_signalRt (x : ManagementEngine) : (s.setMgmt x).signalRt = s.signalRt := rfl
@[simp] theorem State.setMgmt_voteTimers (x : ManagementEngine) : (s.setMgmt x).voteTimers = s.voteTimers := rfl
@[simp] theorem State.setMgmt_faultRt (x : ManagementEngine) : (s.setMgmt x).faultRt = s.faultRt := rfl
@[simp] theorem State.setMgmt_ride (x : ManagementEngine) : (s.setMgmt x).ride = s.ride := rfl
@[simp] theorem State.setMgmt_memory (x : ManagementEngine) : (s.setMgmt x).memory = s.memory := rfl
@[simp] theorem State.setMgmt_lamps (x : ManagementEngine) : (s.setMgmt x).lamps = s.lamps := rfl
@[simp] theorem State.setMgmt_tx (x : ManagementEngine) : (s.setMgmt x).tx = s.tx := rfl
@[simp] theorem State.setMgmt_store (x : ManagementEngine) : (s.setMgmt x).store = s.store := rfl
@[simp] theorem State.setMgmt_freeUses (x : ManagementEngine) : (s.setMgmt x).freeUses = s.freeUses := rfl

@[simp] theorem State.setStore_store (x : PersistentStore) : (s.setStore x).store = x := rfl
@[simp] theorem State.setStore_pending (x : PersistentStore) : (s.setStore x).pending = s.pending := rfl
@[simp] theorem State.setStore_inReset (x : PersistentStore) : (s.setStore x).inReset = s.inReset := rfl
@[simp] theorem State.setStore_pins (x : PersistentStore) : (s.setStore x).pins = s.pins := rfl
@[simp] theorem State.setStore_strap (x : PersistentStore) : (s.setStore x).strap = s.strap := rfl
@[simp] theorem State.setStore_tables (x : PersistentStore) : (s.setStore x).tables = s.tables := rfl
@[simp] theorem State.setStore_chassis (x : PersistentStore) : (s.setStore x).chassis = s.chassis := rfl
@[simp] theorem State.setStore_watchRt (x : PersistentStore) : (s.setStore x).watchRt = s.watchRt := rfl
@[simp] theorem State.setStore_monitors (x : PersistentStore) : (s.setStore x).monitors = s.monitors := rfl
@[simp] theorem State.setStore_signalRt (x : PersistentStore) : (s.setStore x).signalRt = s.signalRt := rfl
@[simp] theorem State.setStore_voteTimers (x : PersistentStore) : (s.setStore x).voteTimers = s.voteTimers := rfl
@[simp] theorem State.setStore_faultRt (x : PersistentStore) : (s.setStore x).faultRt = s.faultRt := rfl
@[simp] theorem State.setStore_ride (x : PersistentStore) : (s.setStore x).ride = s.ride := rfl
@[simp] theorem State.setStore_memory (x : PersistentStore) : (s.setStore x).memory = s.memory := rfl
@[simp] theorem State.setStore_lamps (x : PersistentStore) : (s.setStore x).lamps = s.lamps := rfl
@[simp] theorem State.setStore_tx (x : PersistentStore) : (s.setStore x).tx = s.tx := rfl
@[simp] theorem State.setStore_mgmt (x : PersistentStore) : (s.setStore x).mgmt = s.mgmt := rfl
@[simp] theorem State.setStore_freeUses (x : PersistentStore) : (s.setStore x).freeUses = s.freeUses := rfl

@[simp] theorem State.setFreeUses_freeUses (x : Nat) : (s.setFreeUses x).freeUses = x := rfl
@[simp] theorem State.setFreeUses_pending (x : Nat) : (s.setFreeUses x).pending = s.pending := rfl
@[simp] theorem State.setFreeUses_inReset (x : Nat) : (s.setFreeUses x).inReset = s.inReset := rfl
@[simp] theorem State.setFreeUses_pins (x : Nat) : (s.setFreeUses x).pins = s.pins := rfl
@[simp] theorem State.setFreeUses_strap (x : Nat) : (s.setFreeUses x).strap = s.strap := rfl
@[simp] theorem State.setFreeUses_tables (x : Nat) : (s.setFreeUses x).tables = s.tables := rfl
@[simp] theorem State.setFreeUses_chassis (x : Nat) : (s.setFreeUses x).chassis = s.chassis := rfl
@[simp] theorem State.setFreeUses_watchRt (x : Nat) : (s.setFreeUses x).watchRt = s.watchRt := rfl
@[simp] theorem State.setFreeUses_monitors (x : Nat) : (s.setFreeUses x).monitors = s.monitors := rfl
@[simp] theorem State.setFreeUses_signalRt (x : Nat) : (s.setFreeUses x).signalRt = s.signalRt := rfl
@[simp] theorem State.setFreeUses_voteTimers (x : Nat) : (s.setFreeUses x).voteTimers = s.voteTimers := rfl
@[simp] theorem State.setFreeUses_faultRt (x : Nat) : (s.setFreeUses x).faultRt = s.faultRt := rfl
@[simp] theorem State.setFreeUses_ride (x : Nat) : (s.setFreeUses x).ride = s.ride := rfl
@[simp] theorem State.setFreeUses_memory (x : Nat) : (s.setFreeUses x).memory = s.memory := rfl
@[simp] theorem State.setFreeUses_lamps (x : Nat) : (s.setFreeUses x).lamps = s.lamps := rfl
@[simp] theorem State.setFreeUses_tx (x : Nat) : (s.setFreeUses x).tx = s.tx := rfl
@[simp] theorem State.setFreeUses_mgmt (x : Nat) : (s.setFreeUses x).mgmt = s.mgmt := rfl
@[simp] theorem State.setFreeUses_store (x : Nat) : (s.setFreeUses x).store = s.store := rfl

end Sys2Proof.Machine
end

