-- ==== Sys2Proof/Laws/Shapes.lean ====
section
/-!
SUPPORT. What each shared operation can do, said once: the fields it may replace, and so the fields it leaves.
-/

namespace Sys2Proof.Machine

/-! ### Outcomes -/

/-- An event always answers a next state. -/
theorem eventWhen_next (p : Prop) [Decidable p] (f : State → State) (s : State) :
    ∃ t, eventWhen p f s = .next t := ⟨_, rfl⟩

/-- An event that can take place, on a part out of reset, has its effect. -/
theorem eventWhen_effect {p : Prop} [Decidable p] {f : State → State} {s : State}
    (hr : s.inReset = false) (hp : p) : eventWhen p f s = .next (f s) := by
  simp [eventWhen, hr, hp]

/-- An event that cannot take place changes nothing. -/
theorem eventWhen_idle {p : Prop} [Decidable p] {f : State → State} {s : State} (hp : ¬p) :
    eventWhen p f s = .next s := by
  simp [eventWhen, hp]

/-- A request that is taken is decoded, and the selector runs. -/
theorem requestArrives_taken {payload : List Byte} {s : State} (hf : fitsFrame payload = true)
    (hr : s.inReset = false) (ht : takesRequest s = true) :
    requestArrives payload s = .next (runSelector (decodeRequest payload s)) := by
  simp [requestArrives, hf, eventWhen, hr, ht, takeRequest]

/-! ### The transmitter -/

theorem Transmitter.detach_attemptOnly (t : Transmitter) (p : Item → Bool) :
    AttemptOnly t (t.detach p) := by
  unfold Transmitter.detach
  repeat' split
  all_goals constructor <;> rfl

theorem Transmitter.markResend_attemptOnly (t : Transmitter) (i : Item) :
    AttemptOnly t (t.markResend i) := by
  unfold Transmitter.markResend
  repeat' split
  all_goals constructor <;> rfl

/-- What a selection can do: every field but the attempt stays. -/
theorem runSelector_eq (s : State) : ∃ t, AttemptOnly s.tx t ∧ runSelector s = s.setTx t := by
  unfold runSelector
  split
  · split
    · exact ⟨s.tx, by constructor <;> rfl, rfl⟩
    · exact ⟨_, by constructor <;> rfl, rfl⟩
  · exact ⟨s.tx, by constructor <;> rfl, rfl⟩

/-- A transmitter that stays free after the selector ran has nothing to send. -/
theorem runSelector_rests (s : State) (h : transmitterFree (runSelector s) = true) :
    select s = none ∧ runSelector s = s := by
  unfold runSelector at h ⊢
  by_cases hf : transmitterFree s = true
  · rw [if_pos hf] at h ⊢
    cases hs : select s with
    | none => exact ⟨rfl, rfl⟩
    | some x =>
      obtain ⟨i, fr⟩ := x
      simp [hs, transmitterFree] at h
  · rw [if_neg hf] at h
    exact absurd h hf

/-! ### Samples -/

theorem SampleFrame.refl (s : State) : SampleFrame s s := by constructor <;> rfl

theorem SampleFrame.trans {s t u : State} (h : SampleFrame s t) (k : SampleFrame t u) :
    SampleFrame s u where
  pending := k.pending.trans h.pending
  inReset := k.inReset.trans h.inReset
  pins := k.pins.trans h.pins
  strap := k.strap.trans h.strap
  tables := k.tables.trans h.tables
  chassis := k.chassis.trans h.chassis
  watchRt := k.watchRt.trans h.watchRt
  monitors := k.monitors.trans h.monitors
  signalRt := k.signalRt.trans h.signalRt
  voteTimers := k.voteTimers.trans h.voteTimers
  ride := k.ride.trans h.ride
  mgmt := k.mgmt.trans h.mgmt
  store := k.store.trans h.store
  freeUses := k.freeUses.trans h.freeUses
  response := k.response.trans h.response
  slots := k.slots.trans h.slots
  queue := k.queue.trans h.queue
  beaconDue := k.beaconDue.trans h.beaconDue
  beaconTimer := k.beaconTimer.trans h.beaconTimer
  beaconPeriod := k.beaconPeriod.trans h.beaconPeriod
  noticeLevel := k.noticeLevel.trans h.noticeLevel
  enables := k.enables.trans h.enables
  errorCount := k.errorCount.trans h.errorCount
  offline := k.offline.trans h.offline

theorem setNotice_frame (f : Fin 64) (s : State) : SampleFrame s (setNotice f s) where
  pending := rfl
  inReset := rfl
  pins := rfl
  strap := rfl
  tables := rfl
  chassis := rfl
  watchRt := rfl
  monitors := rfl
  signalRt := rfl
  voteTimers := rfl
  ride := rfl
  mgmt := rfl
  store := rfl
  freeUses := rfl
  response := (s.tx.markResend_attemptOnly (.notice f)).response
  slots := (s.tx.markResend_attemptOnly (.notice f)).slots
  queue := (s.tx.markResend_attemptOnly (.notice f)).queue
  beaconDue := (s.tx.markResend_attemptOnly (.notice f)).beaconDue
  beaconTimer := (s.tx.markResend_attemptOnly (.notice f)).beaconTimer
  beaconPeriod := (s.tx.markResend_attemptOnly (.notice f)).beaconPeriod
  noticeLevel := (s.tx.markResend_attemptOnly (.notice f)).noticeLevel
  enables := (s.tx.markResend_attemptOnly (.notice f)).enables
  errorCount := (s.tx.markResend_attemptOnly (.notice f)).errorCount
  offline := (s.tx.markResend_attemptOnly (.notice f)).offline

theorem setNotices_frame (fs : List (Fin 64)) (s : State) : SampleFrame s (setNotices fs s) := by
  induction fs generalizing s with
  | nil => exact .refl s
  | cons f fs ih => exact (setNotice_frame f s).trans (ih _)

theorem updateLamps_frame (s : State) : SampleFrame s (updateLamps s) := by constructor <;> rfl

theorem changeRecords_frame (rs : List FaultRecord) (s : State) :
    SampleFrame s (changeRecords rs s) := by constructor <;> rfl

theorem setFaultRt_frame (f : Fin 64) (x : FaultRuntime) (s : State) :
    SampleFrame s (setFaultRt f x s) := by constructor <;> rfl

theorem createRecord_frame (f : Fin 64) (d : FaultDef) (s : State) :
    SampleFrame s (createRecord f d s) := by
  unfold createRecord
  split
  · exact (changeRecords_frame _ s).trans (setNotice_frame f _)
  · split
    · constructor <;> rfl
    · exact (changeRecords_frame _ s).trans ((setNotice_frame _ _).trans (setNotice_frame f _))

theorem memoryEnterFailing_frame (f : Fin 64) (d : FaultDef) (s : State) :
    SampleFrame s (memoryEnterFailing f d s) := by
  unfold memoryEnterFailing
  split
  · exact (changeRecords_frame _ s).trans (setNotice_frame f _)
  · exact createRecord_frame f d s

theorem countSample_frame (f : Fin 64) (d : FaultDef) (x : Finding) (s : State) :
    SampleFrame s (countSample f d x s) := by
  unfold countSample
  simp only []
  split
  · exact (setFaultRt_frame f _ s).trans
      ((memoryEnterFailing_frame f d _).trans ((setNotice_frame f _).trans (updateLamps_frame _)))
  · split
    · exact (setFaultRt_frame f _ s).trans ((setNotice_frame f _).trans (updateLamps_frame _))
    · exact setFaultRt_frame f _ s

/-- What a sample can do (R98). -/
theorem takeSample_frame (src : Source) (x : Finding) (s : State) :
    SampleFrame s (takeSample src x s) := by
  unfold takeSample
  split
  · exact .refl s
  · split
    · exact .refl s
    · split
      · exact .refl s
      · split
        · exact .refl s
        · exact countSample_frame _ _ x s

/-- What the samples of one event can do. -/
theorem takeSamples_frame (xs : List (Source × Finding)) (s : State) :
    SampleFrame s (takeSamples xs s) := by
  induction xs generalizing s with
  | nil => exact .refl s
  | cons x xs ih => exact (takeSample_frame x.1 x.2 s).trans (ih _)

/-- What the removal of records can do. -/
theorem removeRecords_frame (p : FaultRecord → Bool) (s : State) :
    SampleFrame s (removeRecords p s) := by
  unfold removeRecords
  simp only []
  split
  · exact .refl s
  · exact (changeRecords_frame _ s).trans ((setNotices_frame _ _).trans (updateLamps_frame _))

/-- What the processing of a qualified closure can do. -/
theorem closeRecords_frame (s : State) : SampleFrame s (closeRecords s) := by
  unfold closeRecords
  simp only []
  split
  · exact .refl s
  · exact (changeRecords_frame _ s).trans ((setNotices_frame _ _).trans (updateLamps_frame _))

/-! ### Folds -/

/-- A property that every step of a fold keeps holds after the fold. -/
theorem foldl_keeps {α : Type} (P : State → Prop) (f : State → α → State)
    (h : ∀ s x, P s → P (f s x)) (xs : List α) (s : State) (hs : P s) : P (xs.foldl f s) := by
  induction xs generalizing s with
  | nil => exact hs
  | cons x xs ih => exact ih _ (h s x hs)

end Sys2Proof.Machine
end

