-- ==== Sys2Proof/Laws/Lamps.lean ====
section
/-!
SUPPORT. The Lamp Driver's operations, each said once: when a request is lit, and what a change of request or of a
row of R144 does to a lamp.
-/

namespace Sys2Proof.Machine

/-! ### Requests -/

/-- A fault has a CONFIRMED record. -/
theorem hasConfirmed_iff (s : State) (f : Fin 64) :
    hasConfirmed s f = true ↔ ∃ r ∈ s.memory.records, r.status = .confirmed ∧ r.fault = f := by
  simp [hasConfirmed, List.any_eq_true, and_comm]

/-- Some non-empty definition satisfies a property. -/
theorem someFault_iff (s : State) (p : Fin 64 → FaultDef → Bool) :
    someFault s p = true ↔ ∃ f d, s.tables.faults.at f = some d ∧ p f d = true := by
  simp only [someFault, List.any_eq_true, List.mem_finRange, true_and]
  refine exists_congr fun f => ?_
  cases s.tables.faults.at f <;> simp

/-- A lamp field of the engine lamp. -/
theorem isEngine_iff (x : LampField) : x.isEngine = true ↔ x = .engineSteady ∨ x = .engineFlash := by
  cases x <;> simp [LampField.isEngine]

/-- When the engine request is FLASH (R139). -/
theorem engineRequest_flash_iff (s : State) : engineRequest s = .flash ↔
    ∃ f d, s.tables.faults.at f = some d ∧ d.lamp = .engineFlash ∧ (s.faultRt.at f).verdict = .failing ∧
      ∃ r ∈ s.memory.records, r.status = .confirmed ∧ r.fault = f := by
  have := someFault_iff s fun f d => d.lamp == .engineFlash && isFailing s f && hasConfirmed s f
  simp only [Bool.and_eq_true, beq_iff_eq, isFailing, hasConfirmed_iff, and_assoc] at this
  rw [← this]
  unfold engineRequest isFailing
  simp only [Bool.and_assoc]
  split_ifs <;> simp_all

/-- When the engine request is lit (R139). -/
theorem engineRequest_lit_iff (s : State) : engineRequest s ≠ .off ↔
    ∃ f d, s.tables.faults.at f = some d ∧ (d.lamp = .engineSteady ∨ d.lamp = .engineFlash) ∧
      ((∃ r ∈ s.memory.records, r.status = .confirmed ∧ r.fault = f) ∨
        d.immediateLamp = true ∧ (s.faultRt.at f).verdict = .failing) := by
  have h1 := someFault_iff s fun f d => d.lamp == .engineFlash && isFailing s f && hasConfirmed s f
  have h2 := someFault_iff s fun f d => d.lamp.isEngine && hasConfirmed s f
  have h3 := someFault_iff s fun f d => d.immediateLamp && d.lamp.isEngine && isFailing s f
  simp only [Bool.and_eq_true, beq_iff_eq, isFailing, hasConfirmed_iff, isEngine_iff, and_assoc] at h1 h2 h3
  unfold engineRequest
  by_cases c1 : someFault s (fun f d => d.lamp == .engineFlash && isFailing s f && hasConfirmed s f) = true
  · rw [if_pos c1]
    obtain ⟨f, d, h, a, b, c⟩ := h1.1 c1
    exact ⟨fun _ => ⟨f, d, h, .inr a, .inl c⟩, by simp⟩
  · rw [if_neg c1]
    by_cases c2 : someFault s (fun f d => d.lamp.isEngine && hasConfirmed s f) = true
    · rw [if_pos c2]
      obtain ⟨f, d, h, a, c⟩ := h2.1 c2
      exact ⟨fun _ => ⟨f, d, h, a, .inl c⟩, by simp⟩
    · rw [if_neg c2]
      by_cases c3 : someFault s (fun f d => d.immediateLamp && d.lamp.isEngine && isFailing s f) = true
      · rw [if_pos c3]
        obtain ⟨f, d, h, a, b, c⟩ := h3.1 c3
        exact ⟨fun _ => ⟨f, d, h, b, .inr ⟨a, c⟩⟩, by simp⟩
      · rw [if_neg c3]
        simp only [ne_eq, not_true_eq_false, false_iff]
        rintro ⟨f, d, h, a, b | ⟨b, c⟩⟩
        · exact c2 (h2.2 ⟨f, d, h, a, b⟩)
        · exact c3 (h3.2 ⟨f, d, h, b, a, c⟩)

/-- The ABS request is never FLASH, and when it is lit (R140). -/
theorem absRequest_lit_iff (s : State) : absRequest s ≠ .flash ∧ (absRequest s ≠ .off ↔
    ∃ f d, s.tables.faults.at f = some d ∧ d.lamp = .abs ∧
      ((∃ r ∈ s.memory.records, r.status = .confirmed ∧ r.fault = f) ∨
        d.immediateLamp = true ∧ (s.faultRt.at f).verdict = .failing)) := by
  have h2 := someFault_iff s fun f d => d.lamp == .abs && hasConfirmed s f
  have h3 := someFault_iff s fun f d => d.immediateLamp && d.lamp == .abs && isFailing s f
  simp only [Bool.and_eq_true, beq_iff_eq, isFailing, hasConfirmed_iff, and_assoc] at h2 h3
  unfold absRequest
  by_cases c2 : someFault s (fun f d => d.lamp == .abs && hasConfirmed s f) = true
  · rw [if_pos c2]
    obtain ⟨f, d, h, a, c⟩ := h2.1 c2
    exact ⟨by simp, fun _ => ⟨f, d, h, a, .inl c⟩, by simp⟩
  · rw [if_neg c2]
    by_cases c3 : someFault s (fun f d => d.immediateLamp && d.lamp == .abs && isFailing s f) = true
    · rw [if_pos c3]
      obtain ⟨f, d, h, a, b, c⟩ := h3.1 c3
      exact ⟨by simp, fun _ => ⟨f, d, h, b, .inr ⟨a, c⟩⟩, by simp⟩
    · rw [if_neg c3]
      simp only [ne_eq, not_true_eq_false, false_iff, reduceCtorEq, not_false_eq_true, true_and]
      rintro ⟨f, d, h, a, b | ⟨b, c⟩⟩
      · exact c2 (h2.2 ⟨f, d, h, a, b⟩)
      · exact c3 (h3.2 ⟨f, d, h, b, a, c⟩)

/-! ### Displayed pattern and stretch -/

/-- The rows of R144 in one expression. -/
theorem targetPattern_eq (s : State) (l : LampState) : targetPattern s l =
    if s.ride.state = .configure then .steady else if s.ride.state.isRunning = false then .off
    else if s.mgmt.unconfigured = true ∨ l.proveOut = true then .steady else l.stretched.getD l.request := by
  unfold targetPattern LampState.effective
  cases s.ride.state <;> simp [RideState.isRunning] <;> cases s.mgmt.unconfigured <;> cases l.proveOut <;> simp

/-- All that bringing a displayed pattern up to date can do: a lit lamp that DEEP holds stays as it is, any other
takes the pattern of R144, entering FLASH with an ON half-cycle (R146, R147). -/
theorem refreshLamp_spec (s : State) (l : LampState) :
    let forced : Prop := s.mgmt.unconfigured = true ∨ l.proveOut = true
    let shown : Pattern :=
      if s.ride.state = .configure then .steady
      else if s.ride.state.isRunning = false then .off
      else if forced then .steady else l.stretched.getD l.request
    let held : Prop :=
      s.ride.band = .deep ∧ s.ride.state.isRunning = true ∧ ¬forced ∧ l.displayed ≠ .off
    (held → refreshLamp s l = l) ∧
    (¬held → refreshLamp s l = { l with
      displayed := shown
      phase := if l.displayed = shown then l.phase
        else if shown = .flash then some ⟨true, 250⟩ else none }) := by
  intro forced shown held
  have hf : followsRequest s l = true ↔ s.ride.state.isRunning = true ∧ ¬forced := by
    simp only [forced]
    unfold followsRequest
    cases s.ride.state.isRunning <;> cases s.mgmt.unconfigured <;> cases l.proveOut <;> simp
  have ht : targetPattern s l = shown := targetPattern_eq s l
  unfold refreshLamp
  rw [ht]
  clear_value shown
  constructor
  · rintro ⟨a, b, c, d⟩; rw [if_pos ⟨a, hf.2 ⟨b, c⟩, d⟩]
  · intro h
    rw [if_neg (fun x => h ⟨x.1, (hf.1 x.2.1).1, (hf.1 x.2.1).2, x.2.2⟩)]
    unfold LampState.display
    by_cases e : l.displayed = shown
    · simp only [if_pos e]; rw [← e]
    · simp only [if_neg e]

/-- A lamp brought up to date has its computed request. -/
theorem updateLamp_request (s : State) (p : Pattern) (l : LampState) : (updateLamp s p l).request = p := by
  unfold updateLamp refreshLamp LampState.display LampState.changeRequest
  split
  · assumption
  · split_ifs <;> rfl

/-- All that a change of request can do to a lamp (R144 to R147). -/
theorem updateLamp_spec (s : State) (p : Pattern) (old : LampState) :
     let new := updateLamp s p old
     let running := s.ride.state.isRunning
     let forced : Prop := s.mgmt.unconfigured = true ∨ old.proveOut = true
     let shown : Pattern :=
       if s.ride.state = .configure then .steady
       else if running = false then .off
       else if forced then .steady else new.stretched.getD new.request
     let held : Prop := s.ride.band = .deep ∧ running = true ∧ ¬forced ∧ old.displayed ≠ .off
     new.proveOut = old.proveOut ∧ (new.request = old.request → new = old) ∧
     (new.request ≠ old.request →
       (running = false → new.stretch = none ∧ new.stretched = none) ∧
       (running = true → old.request = .off → new.stretched = none ∧
         new.stretch = if s.tables.settings.lampStretch = 0 then none
           else some s.tables.settings.lampStretch) ∧
       (running = true → old.request ≠ .off → new.stretch = old.stretch ∧
         new.stretched = if new.request = .off ∧ old.stretch ≠ none then some old.request else none) ∧
       (held → new.displayed = old.displayed ∧ new.phase = old.phase) ∧
       (¬held → new.displayed = shown ∧
         new.phase = if old.displayed = shown then old.phase
           else if shown = .flash then some ⟨true, 250⟩ else none)) := by
  intro new running forced shown held
  by_cases e : old.request = p
  · have : new = old := if_pos e
    rw [this]; exact ⟨rfl, fun _ => rfl, fun h => absurd rfl h⟩
  · let c := old.changeRequest s.tables.settings.lampStretch s.ride.state.isRunning p
    have hn : new = refreshLamp s c := if_neg e
    have hp : c.proveOut = old.proveOut := by simp only [c]; unfold LampState.changeRequest; split_ifs <;> rfl
    have hd : c.displayed = old.displayed := by simp only [c]; unfold LampState.changeRequest; split_ifs <;> rfl
    have hph : c.phase = old.phase := by simp only [c]; unfold LampState.changeRequest; split_ifs <;> rfl
    have hreq : c.request = p := by simp only [c]; unfold LampState.changeRequest; split_ifs <;> rfl
    have hst : running = false → c.stretch = none ∧ c.stretched = none := by
      intro h; simp only [c]; unfold LampState.changeRequest; simp only [running] at h; simp [h]
    have h1 : running = true → old.request = .off → c.stretched = none ∧
        c.stretch = if s.tables.settings.lampStretch = 0 then none
          else some s.tables.settings.lampStretch := by
      intro h h'; simp only [c]; unfold LampState.changeRequest
      simp only [running] at h; simp [h, h', loadUnlessZero]
    have h2 : running = true → old.request ≠ .off → c.stretch = old.stretch ∧
         c.stretched = if p = .off ∧ old.stretch ≠ none then some old.request else none := by
      intro h h'; simp only [c]; unfold LampState.changeRequest; simp only [running] at h
      cases hs : old.stretch <;> simp [h, h'] <;> split_ifs <;> simp_all
    have hr := refreshLamp_spec s c
    clear_value c
    obtain ⟨ra, rb⟩ := hr
    rw [hp, hd] at ra rb
    by_cases hh : held
    · have : new = c := hn.trans (ra hh)
      rw [this, hp, hd, hph, hreq]
      refine ⟨rfl, fun h => absurd h.symm e, fun _ => ⟨hst, h1, h2, fun _ => ⟨rfl, rfl⟩, fun x => absurd hh x⟩⟩
    · have hz := hn.trans (rb hh)
      have z1 : new.stretched = c.stretched := by rw [hz]
      have z2 : new.request = c.request := by rw [hz]
      have z3 : new.stretch = c.stretch := by rw [hz]
      have z4 : new.proveOut = c.proveOut := by rw [hz]; exact hp.symm
      have zs : shown =
          if s.ride.state = .configure then .steady
          else if s.ride.state.isRunning = false then .off
          else if s.mgmt.unconfigured = true ∨ old.proveOut = true then .steady
          else c.stretched.getD c.request := by
        simp only [shown, z1, z2]; rfl
      rw [z1, z2, z3, z4, hp, hreq]
      refine ⟨rfl, fun h => absurd h.symm e, fun _ => ⟨hst, h1, h2, fun x => absurd x hh, fun _ => ?_⟩⟩
      rw [← zs] at hz
      constructor
      · rw [hz]
      · rw [hz, ← hph]

end Sys2Proof.Machine
end

