-- ==== Sys2Proof/Laws/Ride.lean ====
section
/-!
SUPPORT. What ride start, the closure of a ride that is not qualified, and a load of the TABLES region do,
said once, with the small lemmas of the operations they share.
-/

namespace Sys2Proof.Machine

/-! ### Notices -/

/-- A notice flag set is set, every other stays. -/
theorem setNotice_at (f g : Fin 64) (s : State) :
    (setNotice f s).tx.notices.at g = (s.tx.notices.at g || f == g) := by
  have h : (setNotice f s).tx.notices = s.tx.notices.put f true := rfl
  rw [h, Table.at_put]
  by_cases e : f = g <;> simp [e]

/-- The notice flags of several faults set are set, every other stays. -/
theorem setNotices_at (fs : List (Fin 64)) (g : Fin 64) (s : State) :
    (setNotices fs s).tx.notices.at g = (s.tx.notices.at g || fs.contains g) := by
  induction fs generalizing s with
  | nil => simp [setNotices]
  | cons f fs ih =>
    show (setNotices fs (setNotice f s)).tx.notices.at g = _
    rw [ih, setNotice_at]
    simp only [List.contains_cons, Bool.or_assoc]
    congr 2
    simp [Bool.beq_eq_decide_eq, eq_comm]

/-- A notice flag set leaves the attempt in progress but for its resend mark. -/
theorem setNotice_attempt (f : Fin 64) (s : State) :
    (s.tx.attempt = none → (setNotice f s).tx.attempt = none) ∧
    ∀ a, s.tx.attempt = some a → ∃ r, (setNotice f s).tx.attempt = some ⟨a.frame, a.item, r⟩ := by
  constructor
  · intro h; simp [setNotice, Transmitter.markResend, h]
  · intro a h
    by_cases e : a.item = .notice f
    · exact ⟨true, by simp [setNotice, Transmitter.markResend, h, e]⟩
    · exact ⟨a.resend, by simp [setNotice, Transmitter.markResend, h, e]⟩

/-- Several notice flags set leave the attempt in progress but for its resend mark. -/
theorem setNotices_attempt (fs : List (Fin 64)) (s : State) :
    (s.tx.attempt = none → (setNotices fs s).tx.attempt = none) ∧
    ∀ a, s.tx.attempt = some a → ∃ r, (setNotices fs s).tx.attempt = some ⟨a.frame, a.item, r⟩ := by
  induction fs generalizing s with
  | nil => exact ⟨id, fun a h => ⟨a.resend, h⟩⟩
  | cons f fs ih =>
    refine ⟨fun h => (ih _).1 ((setNotice_attempt f s).1 h), fun a h => ?_⟩
    obtain ⟨r, hr⟩ := (setNotice_attempt f s).2 a h
    exact (ih (setNotice f s)).2 ⟨a.frame, a.item, r⟩ hr

/-- What the notice-pending flags of several faults, set, leave: everything but the flags and the attempt's
resend mark. -/
theorem setNotices_eq (fs : List (Fin 64)) (s : State) :
    setNotices fs s = { s with tx := { s.tx with
      notices := (setNotices fs s).tx.notices, attempt := (setNotices fs s).tx.attempt } } := by
  induction fs generalizing s with
  | nil => rfl
  | cons f fs ih =>
    show setNotices fs (setNotice f s) = _
    rw [ih]
    have : (setNotice f s).tx = { s.tx with notices := (setNotice f s).tx.notices, attempt := (setNotice f s).tx.attempt } := by
      obtain ⟨h1, h2, h3, h4, h5, h6, h7, h8, h9, h10, h11⟩ := s.tx.markResend_attemptOnly (.notice f)
      simp only [setNotice, State.setTx]
      cases hm : s.tx.markResend (.notice f); simp_all
    conv_lhs => rw [this]
    rfl

/-! ### Ride start (R72) -/

/-- The monitor of an entry at ride start, its gate's opening taken. -/
theorem gateMonitor_start (e : WatchEntry) :
    gateMonitor .settling .keyOn e .initial =
      if e.gate = .running then ⟨false, 0, 0, none⟩
      else ⟨true, e.deadline + e.startAllowance, 0, none⟩ := by
  cases h : e.gate <;> simp [gateMonitor, gateOpen, h, RideState.isRunning, Monitor.initial]

/-- The timer of a vote rule at ride start, its gate's opening taken. -/
theorem gateVoteTimer_start (r : VoteRule) :
    gateVoteTimer .settling .keyOn r none = if r.gate = .running then none else some r.period := by
  cases h : r.gate <;> simp [gateVoteTimer, gateOpen, h, RideState.isRunning]

/-- The classes at ride start, with their conditions as propositions. -/
theorem classesAtRideStart_eq (s : State) : classesAtRideStart s =
      { ignition :=
          if s.tables.settings.ignitionBlanking = 0 then ⟨false, none⟩
          else ⟨true, some s.tables.settings.ignitionBlanking⟩
        crank := ⟨false, none⟩
        lowSupply := ⟨decide (s.ride.band ≠ .normal), none⟩
        absActive := ⟨false, none⟩
        portDown := ⟨decide (s.chassis.condition = .down), none⟩ } := by
  unfold classesAtRideStart
  cases s.ride.band <;> cases s.chassis.condition <;> rfl

/-- The requests of a state whose verdicts are all UNTESTED come from the CONFIRMED records alone. -/
theorem engineRequest_untested (s : State) (h : ∀ f, isFailing s f = false) :
    engineRequest s ≠ .flash ∧ (engineRequest s = .steady ↔
      ∃ r ∈ s.memory.records, r.status = .confirmed ∧
        ∃ d, s.tables.faults.at r.fault = some d ∧ (d.lamp = .engineSteady ∨ d.lamp = .engineFlash)) := by
  have h1 : (someFault s fun f d => d.lamp == .engineFlash && isFailing s f && hasConfirmed s f) = false := by
    rw [← Bool.not_eq_true, someFault_iff]; simp [h]
  have h3 : (someFault s fun f d => d.immediateLamp && d.lamp.isEngine && isFailing s f) = false := by
    rw [← Bool.not_eq_true, someFault_iff]; simp [h]
  have hl : ∀ x : LampField, x.isEngine = true ↔ x = .engineSteady ∨ x = .engineFlash := by
    intro x; cases x <;> simp [LampField.isEngine]
  simp only [engineRequest, h1, h3, Bool.false_eq_true, if_false]
  split
  · rename_i h2
    simp only [someFault_iff, Bool.and_eq_true, hasConfirmed_iff, hl] at h2
    obtain ⟨f, d, hd, hx, r, hr, hc, rfl⟩ := h2
    exact ⟨by simp, iff_of_true rfl ⟨r, hr, hc, d, hd, hx⟩⟩
  · rename_i h2
    simp only [someFault_iff, Bool.and_eq_true, hasConfirmed_iff, hl, not_exists] at h2
    refine ⟨by simp, iff_of_false (by simp) ?_⟩
    rintro ⟨r, hr, hc, d, hd, hx⟩
    exact h2 r.fault d ⟨hd, hx, r, hr, hc, rfl⟩

/-- The ABS request of a state whose verdicts are all UNTESTED comes from the CONFIRMED records alone. -/
theorem absRequest_untested (s : State) (h : ∀ f, isFailing s f = false) :
    absRequest s ≠ .flash ∧ (absRequest s = .steady ↔
      ∃ r ∈ s.memory.records, r.status = .confirmed ∧
        ∃ d, s.tables.faults.at r.fault = some d ∧ d.lamp = .abs) := by
  have h2 : (someFault s fun f d => d.immediateLamp && d.lamp == .abs && isFailing s f) = false := by
    rw [← Bool.not_eq_true, someFault_iff]; simp [h]
  simp only [absRequest, h2, Bool.false_eq_true, if_false]
  split
  · rename_i h1
    simp only [someFault_iff, Bool.and_eq_true, hasConfirmed_iff, beq_iff_eq] at h1
    obtain ⟨f, d, hd, hx, r, hr, hc, rfl⟩ := h1
    exact ⟨by simp, iff_of_true rfl ⟨r, hr, hc, d, hd, hx⟩⟩
  · rename_i h1
    simp only [someFault_iff, Bool.and_eq_true, hasConfirmed_iff, beq_iff_eq, not_exists] at h1
    refine ⟨by simp, iff_of_false (by simp) ?_⟩
    rintro ⟨r, hr, hc, d, hd, hx⟩
    exact h1 r.fault d ⟨hd, hx, r, hr, hc, rfl⟩

/-- Step 1 of ride start, field by field. -/
theorem rideStartValues_eq (s : State) : rideStartValues s =
    { s with
      chassis := { s.chassis with silence := some s.tables.settings.silenceTime }
      watchRt := Table.fill 32 .initial
      monitors := Table.fill 32 .initial
      signalRt := Table.fill 64 .initial
      voteTimers := Table.fill 4 none
      faultRt := Table.fill 64 .initial
      memory := { s.memory with full := false }
      tx := s.tx.atRideStart s.tables.settings
      ride := { s.ride with
        clockTicks := 0, runTime := 0, speedReached := false, classes := classesAtRideStart s } } := by
  simp only [rideStartValues, State.setChassis, State.setWatchRt, State.setMonitors, State.setSignalRt, State.setVoteTimers, State.setFaultRt, State.setMemory, State.setTx, State.setRide]

/-- A change of gates moves the monitors and the vote timers alone. -/
theorem moveGates_eq (old new : RideState) (s : State) : moveGates old new s =
   { s with monitors := (moveGates old new s).monitors, voteTimers := (moveGates old new s).voteTimers } := rfl

/-- The slots and the queue emptied, field by field. -/
theorem Transmitter.emptyForwarding_eq (t : Transmitter) : t.emptyForwarding =
    { t with slots := Table.fill 32 none, queue := [],
             attempt := t.attempt.map fun a => { a with item := emptiedItem a.item } } := by
  unfold Transmitter.emptyForwarding Transmitter.detach emptiedItem
  cases h : t.attempt with
  | none => simp [h]
  | some a => cases hf : a.item.isForwarded <;> simp [hf, h]

/-- Steps 1 and 2 of ride start, field by field. -/
theorem rideStartGates_eq (s : State) : rideStartGates (rideStartValues s) =
    { s with
      chassis := { s.chassis with silence := some s.tables.settings.silenceTime }
      watchRt := Table.fill 32 .initial
      monitors := Table.build fun w => match timedEntry s.tables w with
        | none => .initial
        | some e => gateMonitor .settling .keyOn e .initial
      signalRt := Table.fill 64 .initial
      voteTimers := Table.build fun k => match s.tables.votes.at k with
        | none => none
        | some r => gateVoteTimer .settling .keyOn r none
      faultRt := Table.fill 64 .initial
      memory := { s.memory with full := false }
      ride := { s.ride with
        state := .keyOn, clockTicks := 0, runTime := 0, speedReached := false,
        classes := classesAtRideStart s }
      tx := s.tx.atRideStart s.tables.settings } := by
  rw [rideStartValues_eq]
  simp only [rideStartGates, moveGates, Table.at_fill, State.setMonitors, State.setVoteTimers, State.setRide] <;> rfl

/-- Steps 1 to 4 of ride start. -/
theorem rideStart_begun (s : State) :
    RideBegun s (setNotices (s.memory.records.map (·.fault))
      (lampsAtRideStart (rideStartGates (rideStartValues s)))) := by
  have hg := rideStartGates_eq s
  generalize rideStartGates (rideStartValues s) = g at hg ⊢
  have hq : ∀ f, isFailing g f = false := by
    intro f
    rw [isFailing, hg, Table.at_fill]; rfl
  have he := engineRequest_untested _ hq
  have ha := absRequest_untested _ hq
  have hr : g.memory.records = s.memory.records := by rw [hg]
  have ht : g.tables = s.tables := by rw [hg]
  rw [hr, ht] at he ha
  rw [lampsAtRideStart, ht]
  generalize engineRequest g = p at *
  generalize absRequest g = q at *
  rw [hg, State.setLamps]
  generalize hx : State.mk .. = x
  have hn := fun f => setNotices_at (s.memory.records.map (·.fault)) f x
  have hat := setNotices_attempt (s.memory.records.map (·.fault)) x
  have hu := setNotices_eq (s.memory.records.map (·.fault)) x
  generalize setNotices (s.memory.records.map (·.fault)) x = u at *
  subst hx
  simp only [] at hu hn hat
  have hl : u.lamps = {
      engine := .atRideStart s.tables.settings.lampStretch p
      abs := .atRideStart s.tables.settings.lampStretch q
      proveTimer := some s.tables.settings.proveOutTime } := by rw [hu]
  constructor
  · rw [hu]
  · rw [hu]
  · intro w; rw [hu]; exact Table.at_fill _ _
  · intro w; rw [hu]; exact Table.at_fill _ _
  · intro w; rw [hu]; exact Table.at_fill _ _
  · rw [hu]
  · intro w
    rw [hu]; simp only [Table.at_build]
    cases timedEntry s.tables w with
    | none => rfl
    | some e => exact gateMonitor_start e
  · intro k
    rw [hu]; simp only [Table.at_build]
    cases s.tables.votes.at k with
    | none => rfl
    | some r => exact gateVoteTimer_start r
  · rw [hu]; simp only [classesAtRideStart_eq]
  · rw [hl]
  · intro l
    rw [hl]
    have hs : ∀ x : Pattern, (LampState.atRideStart s.tables.settings.lampStretch x).stretch =
        if x = .off ∨ s.tables.settings.lampStretch = 0 then none
        else some s.tables.settings.lampStretch := by
      intro x
      by_cases h1 : x = .off <;> by_cases h2 : s.tables.settings.lampStretch = 0 <;>
        simp [LampState.atRideStart, loadUnlessZero, h1, h2]
    cases l
    · exact ⟨rfl, rfl, rfl, rfl, hs p⟩
    · exact ⟨rfl, rfl, rfl, rfl, hs q⟩
  · intro l
    rw [hl]
    cases l
    · exact he.1
    · exact ha.1
  · rw [hl]; exact he.2
  · rw [hl]; exact ha.2
  · conv_lhs => rw [hu]
    simp only [Transmitter.atRideStart, Transmitter.emptyForwarding_eq, loadUnlessZero]
  · intro f
    rw [hn]
    simp only [Transmitter.atRideStart, Transmitter.emptyForwarding_eq]
    congr 1
    induction s.memory.records with
    | nil => rfl
    | cons r rs ih =>
      rw [List.map_cons, List.contains_cons, List.any_cons, ih]
      congr 1
      simp only [beq_eq_decide, eq_comm]
  · simp only [Transmitter.atRideStart, Transmitter.emptyForwarding_eq] at hat
    cases h : s.tx.attempt with
    | none => exact .inl ⟨rfl, hat.1 (by simp [h])⟩
    | some a =>
      obtain ⟨r, hr⟩ := hat.2 _ (by simp [h]; rfl)
      exact .inr ⟨a, r, rfl, hr⟩

/-- Ride start, said once. -/
theorem rideStart_started (s : State) : RideStarted s (rideStart s) := by
  refine ⟨_, rideStart_begun s, ?_⟩
  have hb := rideStart_begun s
  have hr : (lampsAtRideStart (rideStartGates (rideStartValues s))).memory.records = s.memory.records := rfl
  rw [rideStart]
  simp only [hr]
  generalize setNotices (s.memory.records.map (·.fault)) (lampsAtRideStart (rideStartGates (rideStartValues s))) = u at *
  congr 1
  have h1 : u.store = s.store := by rw [hb.frame]
  have h2 : u.chassis.condition = s.chassis.condition := by rw [hb.chassis]
  have h3 : u.tx.offline = s.tx.offline := by rw [hb.tx]
  simp only [rideStartSamples, h1, h2, h3]
  congr 2
  · cases s.store.storeLost <;> rfl
  · cases s.tx.offline <;> rfl

/-! ### Closures (R75, R76) -/

/-- No gate is open in CLOSING. -/
theorem gateOpen_closing (g : Gate) : gateOpen g .closing = false := by cases g <;> rfl

/-- A monitor at entry into CLOSING. -/
theorem gateMonitor_closing (old : RideState) (e : WatchEntry) (m : Monitor) :
    gateMonitor old .closing e m = if gateOpen e.gate old then { m with running := false } else m := by
  simp [gateMonitor, gateOpen_closing]

/-- A vote timer at entry into CLOSING. -/
theorem gateVoteTimer_closing (old : RideState) (r : VoteRule) (t : Option Nat) :
    gateVoteTimer old .closing r t = if gateOpen r.gate old then none else t := by
  simp [gateVoteTimer, gateOpen_closing]

/-- Every item given up, field by field. -/
theorem Transmitter.giveUp_eq (t : Transmitter) : t.giveUp =
    { t with response := none, notices := Table.fill 64 false, slots := Table.fill 32 none, queue := [],
             beaconDue := false, beaconTimer := none, errorCount := 0, offline := none,
             attempt := t.attempt.map fun a => { a with item := .gone } } := by
  unfold Transmitter.giveUp Transmitter.detach
  cases h : t.attempt with
  | none => simp [h]
  | some a => simp

/-- Entry into CLOSING, field by field. -/
theorem closingValues_eq (s : State) : closingValues s =
    { s with
      chassis := { s.chassis with silence := none }
      monitors := Table.build fun w => match timedEntry s.tables w with
        | none => s.monitors.at w
        | some e => gateMonitor s.ride.state .closing e (s.monitors.at w)
      voteTimers := Table.build fun k => match s.tables.votes.at k with
        | none => s.voteTimers.at k
        | some r => gateVoteTimer s.ride.state .closing r (s.voteTimers.at k)
      ride := { s.ride with state := .closing, classes := .inactive }
      tx := s.tx.atClosing
      lamps := { engine := s.lamps.engine.atClosing, abs := s.lamps.abs.atClosing, proveTimer := none } } := by
  simp only [closingValues, lampsAtClosing, enterRideState, moveGates, State.setMonitors, State.setVoteTimers,
    State.setRide, State.setChassis, State.setTx, State.setLamps] <;> rfl

/-- A closure of a ride that is not qualified, with the filtered IGN level LOW, said once. -/
theorem enterClosing_closed (s : State) (hs : s.ride.state.isRunning = false) (hi : s.ride.ign = .low) :
    RideClosed s (enterClosing s) := by
  have hq : rideQualified s = false := by simp [rideQualified, hs]
  have hm : ∀ w, (closingValues s).monitors.at w =
      if (timedEntry s.tables w).any (fun e => gateOpen e.gate s.ride.state) then
        { s.monitors.at w with running := false }
      else s.monitors.at w := by
    intro w
    rw [closingValues_eq]; simp only [Table.at_build]
    cases timedEntry s.tables w with
    | none => rfl
    | some e => exact gateMonitor_closing _ e _
  have hv : ∀ k, (closingValues s).voteTimers.at k =
      if (s.tables.votes.at k).any (fun r => gateOpen r.gate s.ride.state) then none
      else s.voteTimers.at k := by
    intro k
    rw [closingValues_eq]; simp only [Table.at_build]
    cases s.tables.votes.at k with
    | none => rfl
    | some e => exact gateVoteTimer_closing _ e _
  have hc : enterClosing s =
      if s.memory.dirty then beginMemoryWrite (closingValues s) else enterAsleep (closingValues s) := by
    unfold enterClosing
    simp only [hq, Bool.false_eq_true, if_false, finishClosing]
    have h1 : (closingValues s).memory.dirty = s.memory.dirty := rfl
    have h2 : (closingValues s).ride.ign = .low := hi
    simp only [h1, h2]
  rw [hc]
  cases hd : s.memory.dirty with
  | true =>
    simp only [if_true]
    constructor
    all_goals simp only [beginMemoryWrite, beginOp, State.setStore]
    all_goals first
      | exact hm
      | exact hv
      | skip
    all_goals simp [closingValues_eq, Transmitter.atClosing, Transmitter.emptyForwarding_eq, LampDriver.get, hd]
    · intro l; cases l <;> rfl
  | false =>
    simp only [Bool.false_eq_true, if_false]
    constructor
    all_goals simp only [enterAsleep, State.setTx, State.setMgmt, State.setMemory, State.setRide]
    all_goals first
      | exact hm
      | exact hv
      | skip
    all_goals simp [closingValues_eq, Transmitter.giveUp_eq, Transmitter.atClosing, Transmitter.emptyForwarding_eq, LampDriver.get, hd]
    · intro l; cases l <;> rfl
    · exact ⟨rfl, rfl⟩

/-! ### Loads (R186, R187) -/

/-- What installing tables can do. -/
theorem installTables_eq (t : Tables) (u : Bool) (s : State) : installTables t u s =
    { s with
      tables := t, mgmt := { s.mgmt with unconfigured := u },
      watchRt := (installTables t u s).watchRt, monitors := (installTables t u s).monitors,
      signalRt := (installTables t u s).signalRt, voteTimers := (installTables t u s).voteTimers,
      faultRt := (installTables t u s).faultRt } := rfl

/-- A load of the TABLES region, said once. -/
theorem loadTables_loaded (s : State) : TablesLoaded s (loadTables s) := by
  have hl : loadedTables s = none ↔ tablesLost s := by
    unfold loadedTables tablesLost
    by_cases h1 : regionValid tablesSize s.store.tables = true <;>
      by_cases h2 : holdsPartId s.strap (Tables.ofContent (regionContent tablesSize s.store.tables)) = true <;>
      simp [h1, h2]
  have hv : ∀ t, loadedTables s = some t → t = Tables.ofContent (regionContent tablesSize s.store.tables) := by
    intro t h
    unfold loadedTables at h
    split at h
    · simp only [] at h; split at h
      · exact absurd h (by simp)
      · exact (Option.some.inj h).symm
    · exact absurd h (by simp)
  have hn : ∀ {α : Type} (o : Option α), (o.isNone = true) = (o = none) := fun o => by simp
  have key : ∀ t u, ((tablesLost s → t = Tables.empty ∧ u = true) ∧
      (¬tablesLost s → t = Tables.ofContent (regionContent tablesSize s.store.tables) ∧ u = false)) →
      TablesLoaded s (installTables t u s) := by
    intro t u h
    constructor
    · exact h.1
    · exact h.2
    · rfl
    all_goals
      intro i
      simp only [installTables, clearEmptyRuntime, State.setWatchRt, State.setMonitors, State.setSignalRt,
        State.setVoteTimers, State.setFaultRt, State.setTables, State.setMgmt, Table.at_build, hn]
      try rfl
  unfold loadTables
  cases h : loadedTables s with
  | none => exact key _ _ ⟨fun _ => ⟨rfl, rfl⟩, fun k => absurd (hl.1 h) k⟩
  | some t =>
    refine key _ _ ⟨fun k => ?_, fun _ => ⟨hv t h, rfl⟩⟩
    rw [hl.2 k] at h; exact absurd h (by simp)

/-- A load of the MEMORY region, field by field. -/
theorem loadMemory_eq (s : State) : loadMemory s =
    if regionValid memorySize s.store.memory then
      { s with
        memory := ⟨(memoryOfContent (regionContent memorySize s.store.memory)).2, false, false⟩
        store := { s.store with storeLost := false }
        ride := { s.ride with
          rideNumber := (memoryOfContent (regionContent memorySize s.store.memory)).1 } }
    else
      { s with
        memory := ⟨[], false, true⟩
        store := { s.store with storeLost := true }
        ride := { s.ride with rideNumber := 0 } } := by
  simp only [loadMemory, setRideNumber, State.setMemory, State.setStore, State.setRide]

/-- What follows a load, a TABLES write or a reload, said once. -/
theorem startOrClose_spec (s : State) : (s.ride.ign = .high → RideStarted s (startOrClose s)) ∧
    (s.ride.ign = .low → s.ride.state.isRunning = false → RideClosed s (startOrClose s)) := by
  constructor
  · intro h; unfold startOrClose; rw [h]; exact rideStart_started s
  · intro h hr; unfold startOrClose; rw [h]; exact enterClosing_closed s hr h

end Sys2Proof.Machine
end

