-- ==== Sys2Proof/Laws/Edits.lean ====
section
/-!
SUPPORT. What the removal of records, the closure of a qualified ride and a stored or erased signal do, said once.
-/

namespace Sys2Proof.Machine

/-! ### Records -/

/-- The Lamp Driver is told of a removal where a record was removed, and only there (R125). -/
theorem removeRecords_lamps (s : State) (p : FaultRecord → Bool) :
    (if ∃ r ∈ s.memory.records, p r = true then
      (removeRecords p s).lamps = (updateLamps { removeRecords p s with lamps := s.lamps }).lamps
     else (removeRecords p s).lamps = s.lamps) := by
  unfold removeRecords
  dsimp only
  by_cases h : ∃ r ∈ s.memory.records, p r = true
  · rw [if_pos h]
    have : (s.memory.records.filter p).isEmpty = false := by
      obtain ⟨r, hr, hp⟩ := h
      rw [List.isEmpty_eq_false_iff]
      exact List.ne_nil_of_mem (List.mem_filter.2 ⟨hr, hp⟩)
    rw [this]
    simp only [Bool.false_eq_true, if_false]
    rw [setNotices_eq]; rfl
  · rw [if_neg h]
    have : (s.memory.records.filter p).isEmpty = true := by
      rw [List.isEmpty_iff, List.filter_eq_nil_iff]
      intro r hr hp; exact h ⟨r, hr, hp⟩
    rw [this]; rfl

/-- The closure of a qualified ride sets the notice-pending flags of the records it changes or removes (R125, R128). -/
theorem closeRecords_notices (s : State) (f : Fin 64) : (closeRecords s).tx.notices.at f = true ↔
    s.tx.notices.at f = true ∨ ∃ r ∈ s.memory.records, r.fault = f ∧ closeRecord s r ≠ some r := by
  unfold closeRecords
  dsimp only
  have hm : ((s.memory.records.filter fun r => closeRecord s r != some r).map (·.fault)).contains f = true ↔
      ∃ r ∈ s.memory.records, r.fault = f ∧ closeRecord s r ≠ some r := by
    simp only [List.contains_iff_mem, List.mem_map, List.mem_filter, bne_iff_ne]
    constructor
    · rintro ⟨r, ⟨a, b⟩, c⟩; exact ⟨r, a, c, b⟩
    · rintro ⟨r, a, c, b⟩; exact ⟨r, ⟨a, b⟩, c⟩
  rw [← hm]
  split
  · rename_i h
    rw [List.isEmpty_iff] at h; rw [h]; simp
  · show (setNotices _ _).tx.notices.at f = true ↔ _
    rw [setNotices_at, Bool.or_eq_true]; rfl

/-! ### Roles (R49, R88) -/

/-- The holder of a role holds it. -/
theorem roleHolder_holds (s : State) (r : Role) (j : Fin 64) (h : roleHolder s r = some j) :
    ∃ x, s.tables.signals.at j = some x ∧ x.role = r := by
  unfold roleHolder at h
  have := List.find?_some h
  split at this
  · cases this
  · exact ⟨_, by assumption, by simpa using this⟩

/-- Without a holder no signal holds the role. -/
theorem roleHolder_none (s : State) (r : Role) (h : roleHolder s r = none) :
    ∀ j x, s.tables.signals.at j = some x → x.role ≠ r := by
  intro j x hj hx
  unfold roleHolder at h
  have := List.find?_eq_none.1 h j (List.mem_finRange j)
  simp [hj, hx] at this

/-- The holder of a role depends on which signals hold it, and on nothing else. -/
theorem roleHolder_congr (s u : State) (r : Role)
    (h : ∀ j, (∃ e, u.tables.signals.at j = some e ∧ e.role = r) ↔
      ∃ e, s.tables.signals.at j = some e ∧ e.role = r) :
    roleHolder u r = roleHolder s r := by
  unfold roleHolder
  congr 1
  funext j
  have hb (y : Option SignalEntry) :
      (match y with | none => false | some e => e.role == r) = true ↔ ∃ e, y = some e ∧ e.role = r := by
    cases y <;> simp
  exact Bool.eq_iff_iff.2 ((hb _).trans ((h j).trans (hb _).symm))

/-- All that storing or erasing a signal can do: its entry, its runtime, and the end of the ABS_ACTIVE condition
where it held ABS_REGULATING with a value other than 0 (R38, R88). -/
theorem replaceSignal_spec (s : State) (i : Fin 64) (y : Option SignalEntry) (hf : followsConditions s = true)
    (hdup : ∀ e, y = some e → e.role = .absRegulating →
      ∀ j, j ≠ i → ∀ x, s.tables.signals.at j = some x → x.role ≠ .absRegulating) :
    let regulating (j : Fin 64) : Prop := ∃ x, s.tables.signals.at j = some x ∧ x.role = .absRegulating
    let t := replaceSignal i y s
    t = { s with
      tables := { s.tables with signals := s.tables.signals.put i y }
      signalRt := s.signalRt.put i ⟨none, none, 0⟩
      ride := { s.ride with classes := { s.ride.classes with absActive := t.ride.classes.absActive } } } ∧
    ((∀ j, regulating j → j = i) → t.ride.classes.absActive =
      if regulating i ∧ (s.signalRt.at i).value.getD 0 ≠ 0 then
        if s.tables.settings.absTail = 0 then ⟨false, none⟩ else ⟨true, some s.tables.settings.absTail⟩
      else s.ride.classes.absActive) ∧
    (¬regulating i → t.ride = s.ride) := by
  intro regulating t
  let u : State := { s with
    tables := { s.tables with signals := s.tables.signals.put i y }
    signalRt := s.signalRt.put i ⟨none, none, 0⟩ }
  have ht : t = regulatingUpdate (roleValue s .absRegulating) (roleValue u .absRegulating) u := rfl
  have hfu : followsConditions u = true := hf
  have huat : ∀ j, u.tables.signals.at j = if j = i then y else s.tables.signals.at j := by
    intro j; by_cases h : j = i
    · subst h; simp [u]
    · simp [u, h, Table.at_put, Ne.symm h]
  have h0 : (∀ j, regulating j → j = i) → roleValue u .absRegulating = 0 := by
    intro ho
    unfold roleValue
    cases hh : roleHolder u .absRegulating with
    | none => rfl
    | some j =>
      obtain ⟨x, hx, hr⟩ := roleHolder_holds _ _ _ hh
      have : j = i := by
        by_contra hne
        rw [huat, if_neg hne] at hx
        exact hne (ho j ⟨x, hx, hr⟩)
      subst this; simp [u]
  have hs0 : (∀ j, regulating j → j = i) →
      roleValue s .absRegulating = if regulating i then (s.signalRt.at i).value.getD 0 else 0 := by
    intro ho
    unfold roleValue
    cases hh : roleHolder s .absRegulating with
    | none =>
      rw [if_neg]
      rintro ⟨x, hx, hr⟩; exact roleHolder_none _ _ hh _ _ hx hr
    | some j =>
      obtain ⟨x, hx, hr⟩ := roleHolder_holds _ _ _ hh
      have := ho j ⟨x, hx, hr⟩
      subst this; rw [if_pos ⟨x, hx, hr⟩]
  have hkeep : ¬regulating i → roleValue u .absRegulating = roleValue s .absRegulating := by
    intro hn
    by_cases hy : ∃ e, y = some e ∧ e.role = .absRegulating
    · obtain ⟨e, he, hr⟩ := hy
      have ho : ∀ j, regulating j → j = i := by
        rintro j ⟨x, hx, hxr⟩; by_contra hne; exact hdup e he hr j hne x hx hxr
      rw [h0 ho, hs0 ho, if_neg hn]
    · have hh : roleHolder u .absRegulating = roleHolder s .absRegulating := by
        apply roleHolder_congr
        intro j
        rw [huat]
        by_cases hj : j = i
        · subst hj
          rw [if_pos rfl]
          exact iff_of_false hy hn
        · rw [if_neg hj]
      unfold roleValue
      rw [hh]
      cases hq : roleHolder s .absRegulating with
      | none => rfl
      | some j =>
        obtain ⟨x, hx, hr⟩ := roleHolder_holds _ _ _ hq
        have hj : j ≠ i := fun h => hn ⟨x, h ▸ hx, hr⟩
        simp [u, Table.at_put, Ne.symm hj]
  refine ⟨?_, ?_, ?_⟩
  · rw [ht]; unfold regulatingUpdate beginClass endClass
    split_ifs <;> rfl
  · intro ho
    rw [ht, h0 ho, hs0 ho]
    unfold regulatingUpdate endClass
    by_cases hc : regulating i
    · rw [if_pos hc]
      by_cases hv : (s.signalRt.at i).value.getD 0 = 0
      · rw [if_neg (fun h => h.2 rfl), if_neg (fun h => h.1 hv), if_neg (fun h => h.2 hv)]
      · rw [if_neg (fun h => hv h.1),
          if_pos (show (s.signalRt.at i).value.getD 0 ≠ 0 ∧ (0 : Int) = 0 from ⟨hv, rfl⟩), if_pos hfu,
          if_pos (show regulating i ∧ _ from ⟨hc, hv⟩)]
        rfl
    · rw [if_neg hc, if_neg (fun h => h.2 rfl), if_neg (fun h => h.1 rfl), if_neg (fun h => hc h.1)]
  · intro hn
    rw [ht, hkeep hn]
    unfold regulatingUpdate
    by_cases hz : roleValue s .absRegulating = 0 <;> simp [hz] <;> (try rfl)

end Sys2Proof.Machine
end

