-- ==== Sys2Proof/Laws/Memory.lean ====
section
/-!
SUPPORT. The laws of byte areas: a read after a write, and the canonical form kept by every operation.
-/

namespace Sys2Proof.Machine

/-! ### The canonical form -/

@[simp] theorem Mem.wfFrom_nil (d : Byte) (size lo : Nat) : Mem.wfFrom d size lo [] = true := rfl

theorem Mem.wfFrom_cons {d : Byte} {size lo x : Nat} {b : Byte} {m : List Host.Cell} :
    Mem.wfFrom d size lo ((x, b) :: m) = true ↔
      lo ≤ x ∧ x < size ∧ b ≠ d ∧ Mem.wfFrom d size (x + 1) m = true := by
  simp [Mem.wfFrom, and_assoc]

/-- A form from a higher address is one from a lower address. -/
theorem Mem.wfFrom_mono {d : Byte} {size lo lo' : Nat} {m : List Host.Cell} (h : lo' ≤ lo)
    (hm : Mem.wfFrom d size lo m = true) : Mem.wfFrom d size lo' m = true := by
  cases m with
  | nil => rfl
  | cons c m =>
    obtain ⟨x, b⟩ := c
    rw [Mem.wfFrom_cons] at hm ⊢
    exact ⟨h.trans hm.1, hm.2⟩

/-- An unlisted address below every cell reads as `d`. -/
theorem Mem.read_below {d : Byte} {size lo a : Nat} {m : List Host.Cell}
    (hm : Mem.wfFrom d size lo m = true) (h : a < lo) : Mem.read d m a = d := by
  induction m generalizing lo with
  | nil => rfl
  | cons c m ih =>
    obtain ⟨x, b⟩ := c
    rw [Mem.wfFrom_cons] at hm
    have hx : x ≠ a := by omega
    simp only [Mem.read, hx, if_false]
    exact ih hm.2.2.2 (by omega)

/-- A write inside the area keeps the canonical form. -/
theorem Mem.write_wfFrom {d : Byte} {size lo a : Nat} {m : List Host.Cell} (b : Byte)
    (hm : Mem.wfFrom d size lo m = true) (hlo : lo ≤ a) (ha : a < size) :
    Mem.wfFrom d size lo (Mem.write d m a b) = true := by
  induction m generalizing lo with
  | nil =>
    simp only [Mem.write]
    split
    · rfl
    · exact Mem.wfFrom_cons.2 ⟨hlo, ha, ‹_›, rfl⟩
  | cons c m ih =>
    obtain ⟨x, c⟩ := c
    have h := hm
    rw [Mem.wfFrom_cons] at h
    obtain ⟨h1, h2, h3, h4⟩ := h
    simp only [Mem.write]
    split
    · exact Mem.wfFrom_cons.2 ⟨h1, h2, h3, ih h4 (by omega)⟩
    · split
      · split
        · exact Mem.wfFrom_mono (by omega) h4
        · subst ‹x = a›
          exact Mem.wfFrom_cons.2 ⟨h1, h2, ‹_›, h4⟩
      · split
        · exact hm
        · exact Mem.wfFrom_cons.2
            ⟨hlo, ha, ‹_›, Mem.wfFrom_cons.2 ⟨by omega, h2, h3, h4⟩⟩

/-- A write of bytes that end inside the area keeps the canonical form. -/
theorem Mem.writeBytes_wf {d : Byte} {size a : Nat} (bs : List Byte) {m : List Host.Cell}
    (hm : Mem.wf d size m = true) (h : a + bs.length ≤ size) :
    Mem.wf d size (Mem.writeBytes d m a bs) = true := by
  induction bs generalizing a m with
  | nil => exact hm
  | cons b bs ih =>
    simp only [List.length_cons] at h
    exact ih (Mem.write_wfFrom b hm (Nat.zero_le a) (by omega)) (by omega)

/-- One byte written inside the area keeps the canonical form. -/
theorem Mem.write_wf {d : Byte} {size a : Nat} {m : List Host.Cell} (b : Byte)
    (hm : Mem.wf d size m = true) (ha : a < size) : Mem.wf d size (Mem.write d m a b) = true :=
  Mem.write_wfFrom b hm (Nat.zero_le a) ha

theorem Mem.ofBytes_wfFrom (d : Byte) (size a : Nat) (bs : List Byte) (h : a + bs.length ≤ size) :
    Mem.wfFrom d size a (Mem.ofBytes d a bs) = true := by
  induction bs generalizing a with
  | nil => rfl
  | cons b bs ih =>
    simp only [List.length_cons] at h
    simp only [Mem.ofBytes]
    split
    · exact Mem.wfFrom_mono (Nat.le_succ a) (ih (a + 1) (by omega))
    · exact Mem.wfFrom_cons.2 ⟨le_refl a, by omega, ‹_›, ih (a + 1) (by omega)⟩

/-- An area filled from given bytes has the canonical form. -/
theorem Mem.ofBytes_wf (d : Byte) (size : Nat) (bs : List Byte) (h : bs.length ≤ size) :
    Mem.wf d size (Mem.ofBytes d 0 bs) = true :=
  Mem.ofBytes_wfFrom d size 0 bs (by omega)

/-! ### Reads -/

/-- A read after a write: the byte written at its address, every other byte as before. -/
theorem Mem.read_write {d : Byte} {size lo : Nat} {m : List Host.Cell} (a a' : Nat) (b : Byte)
    (hm : Mem.wfFrom d size lo m = true) :
    Mem.read d (Mem.write d m a b) a' = if a = a' then b else Mem.read d m a' := by
  induction m generalizing lo with
  | nil =>
    simp only [Mem.write]
    split
    · subst ‹b = d›; simp [Mem.read]
    · simp [Mem.read]
  | cons c m ih =>
    obtain ⟨x, c⟩ := c
    rw [Mem.wfFrom_cons] at hm
    obtain ⟨h1, h2, h3, h4⟩ := hm
    simp only [Mem.write]
    split
    · simp only [Mem.read]
      split
      · subst ‹x = a'›
        rw [if_neg (by omega)]
      · exact ih h4
    · split
      · subst ‹x = a›
        split
        · subst ‹b = d›
          simp only [Mem.read]
          split
          · subst ‹x = a'›
            exact Mem.read_below h4 (by omega)
          · rfl
        · simp only [Mem.read]
          split <;> rfl
      · split
        · subst ‹b = d›
          split
          · subst ‹a = a'›
            simp only [Mem.read]
            rw [if_neg ‹_›]
            exact Mem.read_below h4 (by omega)
          · rfl
        · simp only [Mem.read]

/-- A byte of an area filled from given bytes. -/
theorem Mem.read_ofBytes (d : Byte) (a : Nat) (bs : List Byte) (k : Nat) :
    Mem.read d (Mem.ofBytes d a bs) (a + k) = bs.getD k d := by
  induction bs generalizing a k with
  | nil => rfl
  | cons b bs ih =>
    have below : ∀ m, Mem.wfFrom d (a + 1 + bs.length) (a + 1) m = true → Mem.read d m a = d :=
      fun m hm => Mem.read_below hm (Nat.lt_succ_self a)
    have hw := Mem.ofBytes_wfFrom d (a + 1 + bs.length) (a + 1) bs (le_refl _)
    cases k with
    | zero =>
      simp only [Mem.ofBytes, Nat.add_zero]
      split
      · subst ‹b = d›
        simpa using below _ hw
      · simp [Mem.read]
    | succ k =>
      have ih' := ih (a + 1) k
      rw [show a + 1 + k = a + (k + 1) by omega] at ih'
      simp only [Mem.ofBytes]
      split
      · simpa using ih'
      · simp only [Mem.read]
        rw [if_neg (by omega)]
        simpa using ih'

@[simp] theorem Mem.bytes_length (d : Byte) (m : List Host.Cell) (a n : Nat) :
    (Mem.bytes d m a n).length = n := by
  simp [Mem.bytes]

/-! ### The stages of a region write (R185) -/

@[simp] theorem le16_length (n : Nat) : (le16 n).length = 2 := rfl

/-- Stages 1 and 2 keep the region's canonical form. -/
theorem regionBeginWrite_wf {size : Nat} {content : List Byte} {m : List Host.Cell}
    (hm : Mem.wf storeFill (size + 3) m = true) (hc : content.length = size) :
    Mem.wf storeFill (size + 3) (regionBeginWrite size content m) = true :=
  Mem.writeBytes_wf content (Mem.write_wf 0 hm (by omega)) (by omega)

/-- Stage 3 keeps the region's canonical form. -/
theorem regionEndWrite_wf {size : Nat} {m : List Host.Cell}
    (hm : Mem.wf storeFill (size + 3) m = true) :
    Mem.wf storeFill (size + 3) (regionEndWrite size m) = true :=
  Mem.write_wf 1 (Mem.writeBytes_wf _ hm (by simp)) (by omega)

end Sys2Proof.Machine
end

