-- ==== Sys2Proof/Laws/PerInstr.lean ====
section
/-!
SUPPORT. The family FrameFits: the frame that a well-formed command brings carries at most 8 bytes (section
0.8), one lemma per command.
-/

namespace Sys2Proof.Laws

/-- The frame of a well-formed command carries at most 8 bytes. -/
def FrameFits.Statement (i : Instr) : Prop := i.wellFormed = true → i.frameBytes.length ≤ 8

/-- What well-formedness says of the frame, for any command. -/
theorem frame_le_of_wellFormed (i : Instr) (h : i.wellFormed = true) : i.frameBytes.length ≤ 8 := by
  simp only [Instr.wellFormed, Bool.and_eq_true, fitsFrame, decide_eq_true_eq] at h
  exact h.1

theorem FrameFits.errorFreeFrame (id : CanId) (payload : List Byte) : FrameFits.Statement (.errorFreeFrame id payload) :=
  frame_le_of_wellFormed _

theorem FrameFits.busError : FrameFits.Statement .busError :=
  frame_le_of_wellFormed _

theorem FrameFits.silenceTimerExpiry : FrameFits.Statement .silenceTimerExpiry :=
  frame_le_of_wellFormed _

theorem FrameFits.monitorExpiry (entry : Fin 32) : FrameFits.Statement (.monitorExpiry entry) :=
  frame_le_of_wellFormed _

theorem FrameFits.periodExpiry (entry : Fin 32) : FrameFits.Statement (.periodExpiry entry) :=
  frame_le_of_wellFormed _

theorem FrameFits.voteExpiry (rule : Fin 4) : FrameFits.Statement (.voteExpiry rule) :=
  frame_le_of_wellFormed _

theorem FrameFits.ignFilterChange (level : Level) : FrameFits.Statement (.ignFilterChange level) :=
  frame_le_of_wellFormed _

theorem FrameFits.supplyBandChange (sample : Nat) : FrameFits.Statement (.supplyBandChange sample) :=
  frame_le_of_wellFormed _

theorem FrameFits.powerOnReset : FrameFits.Statement .powerOnReset :=
  frame_le_of_wellFormed _

theorem FrameFits.loadCompletion : FrameFits.Statement .loadCompletion :=
  frame_le_of_wellFormed _

theorem FrameFits.memoryWriteCompletion : FrameFits.Statement .memoryWriteCompletion :=
  frame_le_of_wellFormed _

theorem FrameFits.tablesWriteCompletion : FrameFits.Statement .tablesWriteCompletion :=
  frame_le_of_wellFormed _

theorem FrameFits.reloadCompletion : FrameFits.Statement .reloadCompletion :=
  frame_le_of_wellFormed _

theorem FrameFits.tailTimerExpiry (cls : TailClass) : FrameFits.Statement (.tailTimerExpiry cls) :=
  frame_le_of_wellFormed _

theorem FrameFits.ignitionTimerExpiry : FrameFits.Statement .ignitionTimerExpiry :=
  frame_le_of_wellFormed _

theorem FrameFits.proveOutTimerExpiry : FrameFits.Statement .proveOutTimerExpiry :=
  frame_le_of_wellFormed _

theorem FrameFits.stretchTimerExpiry (lamp : Lamp) : FrameFits.Statement (.stretchTimerExpiry lamp) :=
  frame_le_of_wellFormed _

theorem FrameFits.flashPhaseExpiry (lamp : Lamp) : FrameFits.Statement (.flashPhaseExpiry lamp) :=
  frame_le_of_wellFormed _

theorem FrameFits.attemptSuccess : FrameFits.Statement .attemptSuccess :=
  frame_le_of_wellFormed _

theorem FrameFits.attemptFailure : FrameFits.Statement .attemptFailure :=
  frame_le_of_wellFormed _

theorem FrameFits.lostArbitration : FrameFits.Statement .lostArbitration :=
  frame_le_of_wellFormed _

theorem FrameFits.offlineTimerExpiry : FrameFits.Statement .offlineTimerExpiry :=
  frame_le_of_wellFormed _

theorem FrameFits.beaconTimerExpiry : FrameFits.Statement .beaconTimerExpiry :=
  frame_le_of_wellFormed _

theorem FrameFits.requestDiscarded (payload : List Byte) : FrameFits.Statement (.requestDiscarded payload) :=
  frame_le_of_wellFormed _

theorem FrameFits.unknown (payload : List Byte) : FrameFits.Statement (.unknown payload) :=
  frame_le_of_wellFormed _

theorem FrameFits.status (args : List Byte) : FrameFits.Statement (.status args) :=
  frame_le_of_wellFormed _

theorem FrameFits.readFault (args : List Byte) : FrameFits.Statement (.readFault args) :=
  frame_le_of_wellFormed _

theorem FrameFits.readSignal (args : List Byte) : FrameFits.Statement (.readSignal args) :=
  frame_le_of_wellFormed _

theorem FrameFits.peekMonitor (args : List Byte) : FrameFits.Statement (.peekMonitor args) :=
  frame_le_of_wellFormed _

theorem FrameFits.fetchRecord (args : List Byte) : FrameFits.Statement (.fetchRecord args) :=
  frame_le_of_wellFormed _

theorem FrameFits.readBuffer (args : List Byte) : FrameFits.Statement (.readBuffer args) :=
  frame_le_of_wellFormed _

theorem FrameFits.writeBuffer (args : List Byte) : FrameFits.Statement (.writeBuffer args) :=
  frame_le_of_wellFormed _

theorem FrameFits.clearRecords (args : List Byte) : FrameFits.Statement (.clearRecords args) :=
  frame_le_of_wellFormed _

theorem FrameFits.setNoticeMask (args : List Byte) : FrameFits.Statement (.setNoticeMask args) :=
  frame_le_of_wellFormed _

theorem FrameFits.enterConfigure (args : List Byte) : FrameFits.Statement (.enterConfigure args) :=
  frame_le_of_wellFormed _

theorem FrameFits.leaveConfigureCommit (args : List Byte) : FrameFits.Statement (.leaveConfigureCommit args) :=
  frame_le_of_wellFormed _

theorem FrameFits.leaveConfigureAbandon (args : List Byte) : FrameFits.Statement (.leaveConfigureAbandon args) :=
  frame_le_of_wellFormed _

theorem FrameFits.storeEntry (args : List Byte) : FrameFits.Statement (.storeEntry args) :=
  frame_le_of_wellFormed _

theorem FrameFits.fetchEntry (args : List Byte) : FrameFits.Statement (.fetchEntry args) :=
  frame_le_of_wellFormed _

theorem FrameFits.eraseEntry (args : List Byte) : FrameFits.Statement (.eraseEntry args) :=
  frame_le_of_wellFormed _

theorem FrameFits.leavePowerOnReset (id0 id1 : Bool) : FrameFits.Statement (.leavePowerOnReset id0 id1) :=
  frame_le_of_wellFormed _

end Sys2Proof.Laws
end

