-- ==== Sys2Proof/Tests/Slice0.lean ====
section
/-!
SUPPORT. Tests: ill-formed commands, the spec's worked examples, and for every statement with hypotheses a state
that meets them.
-/

namespace Sys2Proof.Tests
open Sys2Proof.Machine

-- one test at a time: each evaluation in the kernel would hold a thread of its own
set_option Elab.async false

/-! ### States to test on -/

/-- The wheel speed frame's entry (section 1.4). -/
def wheelEntry : WatchEntry :=
  { identifier := 0x120, expectedLength := 8, mode := .retrigger, deadline := 20, minimumInterval := 0,
    burstLimit := 1, startAllowance := 200, gate := .awake, alive := some ⟨6, false⟩,
    checksum := some ⟨7, 0x5A⟩, policy := .hold, staleMarker := some 5 }

/-- A wheel speed frame's payload (section 1.4). -/
def wheelBytes (alive sum : Byte) : List Byte := [0x10, 0x00, 0x40, 0x11, 0x00, 0x00, alive, sum]

/-- The rear wheel speed (section 3.2, Worked scaling cases), given the role VEHICLE_SPEED. -/
def rearWheel : SignalEntry :=
  { watch := 4, startBit := 16, length := 16, signedness := .unsigned, gain := 10, shift := 6, offset := 0,
    rangeLow := 0, rangeHigh := 3500, stepLimit := 0, frozenLimit := 0, role := .vehicleSpeed }

/-- The speed vote (section 4.6). -/
def speedVote : VoteRule :=
  { memberA := 10, memberB := 11, memberC := some 30, absoluteTolerance := 20, relativeTolerance := 8,
    floor := 50, period := 100, gate := .running }

/-- The rear wheel vote's fault, number 17 (Worked debounce run). -/
def rearFault : FaultDef :=
  { source := .vote .b 0, group := .brake, level := 2, stepUp := 10, stepDown := 2, confirm := 50,
    heal := -20, jumpUp := true, jumpDown := false, twoRide := false, immediateLamp := false, lamp := .abs,
    lampOffRides := 3, agingRides := 40, mask := ⟨false, false, false, true, false⟩, capture := [11] }

/-- Tables with one entry of each kind. -/
def someTables : Tables :=
  { Tables.empty with
    watch := Tables.empty.watch.put 4 (some wheelEntry)
    signals := Tables.empty.signals.put 11 (some rearWheel)
    votes := Tables.empty.votes.put 0 (some speedVote)
    faults := Tables.empty.faults.put 16 (some rearFault) }

/-- The part in a ride state with IGN high and the supply NORMAL. -/
def inState (st : RideState) : State :=
  { State.reset with
    tables := someTables
    pins := { State.reset.pins with ign := .high, vsense := 12000 }
    ride := { RideController.initial with state := st, band := .normal, ign := .high, hold := true } }

/-- A ride in RUNNING. -/
def riding : State :=
  { inState .running with
    chassis := ⟨0, .live, some 100⟩
    monitors := State.reset.monitors.put 4 ⟨true, 20, 0, none⟩
    voteTimers := State.reset.voteTimers.put 0 (some 100) }

/-- A state with the Chassis Port replaced. -/
def withPort (count : Nat) (c : PortCondition) (silence : Option Nat) (s : State) : State :=
  s.setChassis ⟨count, c, silence⟩

/-- A state with entry 4's definition replaced. -/
def withEntry (e : WatchEntry) (s : State) : State :=
  s.setTables { s.tables with watch := s.tables.watch.put 4 (some e) }

/-- A state with fault 17's definition and runtime replaced. -/
def withFault (d : FaultDef) (rt : FaultRuntime) (s : State) : State :=
  (s.setTables { s.tables with faults := s.tables.faults.put 16 (some d) }).setFaultRt (s.faultRt.put 16 rt)

/-- A state with entry 4's runtime and monitor replaced. -/
def withWatch (rt : WatchRuntime) (m : Monitor) (s : State) : State :=
  (s.setWatchRt (s.watchRt.put 4 rt)).setMonitors (s.monitors.put 4 m)

/-- A record of fault number `f + 1`. -/
def recordFor (f : Fin 64) (status : RecordStatus) : FaultRecord :=
  { fault := f, status := status, occurrences := 1, firstRide := 0, lastRide := 0, goodRides := 0,
    rideState := .running, band := .normal, clock := 0, signals := [] }

/-- A state with its records replaced. -/
def withRecords (rs : List FaultRecord) (s : State) : State := s.setMemory { s.memory with records := rs }

/-- A state whose IGN filter has counted to 20. -/
def atCount (s : State) : State := s.setRide { s.ride with ignCount := 20 }

/-- A state whose filtered IGN level is LOW. -/
def atLow (s : State) : State := s.setRide { s.ride with ign := .low }

/-- A state with an attempt of an item in progress. -/
def sending (i : Item) (s : State) : State :=
  s.setTx { s.tx with attempt := some ⟨⟨0x120, []⟩, i, false⟩ }

/-- A state with a store operation in progress that may complete. -/
def withOp (w : StoreWork) (s : State) : State := s.setStore { s.store with op := some ⟨w, 1⟩ }

/-- The state that an outcome answers, the given one where there is none. -/
def nextOf (o : Host.Outcome State Fault Refusal) (s : State) : State :=
  match o with
  | .next t => t
  | .fault _ => s
  | .refused _ => s

/-- The state after commands, each its own step. -/
def after (cs : List Instr) (s : State) : State := cs.foldl (fun s c => nextOf (exec c s) s) s

/-! ### Ill-formed commands -/

theorem test_frame_too_long :
    (Instr.errorFreeFrame 0x120 (List.replicate 9 0)).wellFormed = false ∧
      (Instr.errorFreeFrame 0x120 (List.replicate 8 0)).wellFormed = true := by decide

theorem test_request_too_long :
    (Instr.status (List.replicate 8 0)).wellFormed = false ∧
      (Instr.status (List.replicate 7 0)).wellFormed = true := by decide

theorem test_unknown_names_a_request :
    (Instr.unknown [0x10]).wellFormed = false ∧ (Instr.unknown [0x15]).wellFormed = true ∧
      (Instr.unknown []).wellFormed = true := by decide

theorem test_commit_flag_clear :
    (Instr.leaveConfigureCommit [0x02]).wellFormed = false ∧
      (Instr.leaveConfigureCommit [0x01]).wellFormed = true := by decide

theorem test_abandon_flag_set :
    (Instr.leaveConfigureAbandon [0x01]).wellFormed = false ∧
      (Instr.leaveConfigureAbandon [0x00]).wellFormed = true := by decide

theorem test_long_frame_refused :
    exec (.errorFreeFrame 0x120 (List.replicate 9 0)) riding = .refused .notAFrame := rfl

theorem test_no_word_spells_a_command : decodeTableWord 32 0x12345678 = none := by decide

/-! ### Worked examples of the spec -/

/-- Section 1.1, burst of errors: 15 bus errors give 120, LIVE; one more 128, DOWN; the silence timer is not
reloaded. -/
theorem test_burst_of_errors :
    (after (List.replicate 15 .busError) riding).chassis = ⟨120, .live, some 100⟩ ∧
      (after (List.replicate 16 .busError) riding).chassis = ⟨128, .down, some 100⟩ := by decide +kernel

/-- Section 1.1: 32 error-free frames give 96, still DOWN; one more gives 95, LIVE. -/
theorem test_recovery :
    after [.errorFreeFrame 0x001 []] (withPort 97 .down (some 5) riding) = withPort 96 .down (some 100) riding ∧
      (after [.errorFreeFrame 0x001 []] (withPort 96 .down (some 5) riding)).chassis =
        ⟨95, .live, some 100⟩ := by decide +kernel

/-- Section 1.4, the check value of alive value 10 is 0x3A, of 0 is 0x44. -/
theorem test_check_value :
    frameCheck ⟨7, 0x5A⟩ (wheelBytes 10 0) = 0x3A ∧ frameCheck ⟨7, 0x5A⟩ (wheelBytes 0 0xFF) = 0x44 := by
  decide

/-- Section 1.4, frames 1 to 8 but 7: class, previous alive value, last-good frame. -/
theorem test_screened_restart :
    let rt (cs : List (Byte × Byte)) : WatchRuntime :=
      (after (cs.map fun c => .errorFreeFrame 0x120 (wheelBytes c.1 c.2)) riding).watchRt.at 4
    rt [(10, 0x3A)] = ⟨.fresh, some (wheelBytes 10 0x3A), some 10⟩ ∧
      rt [(10, 0x3A), (11, 0x39), (11, 0x39)] = ⟨.fresh, some (wheelBytes 11 0x39), some 11⟩ ∧
      rt [(11, 0x39), (13, 0x37), (14, 0x63)] = ⟨.fresh, some (wheelBytes 13 0x37), some 13⟩ ∧
      rt [(13, 0x37), (0, 0x44)] = ⟨.fresh, some (wheelBytes 0 0x44), some 0⟩ := by decide +kernel

/-- Section 2, entry 4 falls silent: the substitute of frame 8 has byte 5 0xFF and byte 7 0x44. -/
theorem test_substitute :
    substituteBytes wheelEntry (wheelBytes 1 0x43) = [0x10, 0x00, 0x40, 0x11, 0x00, 0xFF, 1, 0x44] := by decide

/-- Section 3.2, the worked scaling cases. -/
theorem test_scaling :
    (extract rearWheel (wheelBytes 0 0) = 4416 ∧ scale rearWheel 4416 = 690) ∧
      scale rearWheel 3917 = 612 ∧
      scale { rearWheel with gain := 1, shift := 2 } (-30) = -8 ∧
      scale { rearWheel with gain := 1, shift := 0, offset := -10000 } 40000 = 30000 ∧
      scale { rearWheel with gain := 32767, shift := 0 } 65535 = 32767 ∧
      scale { rearWheel with gain := -32768, shift := 15, offset := 100 } 65535 = -32768 := by decide

/-- Section 3.2, the signed fields: 0xFE2 in 12 bits from bit 8, and one set bit at 33. -/
theorem test_signed_fields :
    extract { rearWheel with startBit := 8, length := 12, signedness := .signed } [0, 0xE2, 0x0F] = -30 ∧
      extract { rearWheel with startBit := 33, length := 1, signedness := .signed } [0, 0, 0, 0, 2] = -1 := by
  decide

/-- Section 4.6: A 612, B 690, C 618. -/
theorem test_speed_vote :
    agree speedVote 612 690 = false ∧ agree speedVote 612 618 = true ∧ agree speedVote 690 618 = false := by
  decide

/-- The worked debounce run: samples 7 and 12, and 47. -/
theorem test_debounce :
    failStep rearFault (-12) = 10 ∧ nextVerdict rearFault (failStep rearFault 40) .undecided = .failing ∧
      passStep rearFault 50 = 48 ∧ nextVerdict rearFault (passStep rearFault (-18)) .failing = .passing := by
  decide

/-- STATUS in RUNNING at NORMAL, ride number 0, no record: the response frame on 0x7C1, but for the summary byte. -/
theorem test_status_frame :
    ((after [.status []] riding).tx.attempt.map fun a => (a.frame.id, a.frame.bytes.take 2, a.frame.bytes.drop 3)) =
      some (0x7C1, [0x10, 0x00], [4, 0, 0, 0, 0]) := by decide +kernel

/-- A key-off of an unqualified ride with nothing to write goes to ASLEEP in one event; a key-on begins a load. -/
theorem test_key_off_and_on :
    let off := after [.ignFilterChange .low] (atCount riding)
    off.ride.state = .asleep ∧
      (after [.ignFilterChange .high] (atCount off)).store.op = some ⟨.load, 0⟩ := by decide +kernel

/-- A raw LOW for fewer than 20 ticks leaves the filtered level HIGH and the ride going on (R69). -/
theorem test_pulse_filtered :
    let low := after [.ignFilterChange .low] (riding.setRide { riding.ride with ignCount := 19 })
    let back := after [.ignFilterChange .high] low
    (low.pins.ign = .low ∧ low.ride.ign = .high ∧ low.ride.state = .running) ∧
      tickIgnCount low.pins low.ride = 20 ∧ tickIgnCount back.pins back.ride = 0 := by decide +kernel

/-- The frames of a notice of fault 17, FAILING with a CONFIRMED record, and of the beacon in RUNNING at NORMAL
(sections 12.1, 12.3): brake group present, summary byte 2. -/
theorem test_notice_and_beacon_frames :
    let s := withRecords [recordFor 16 .confirmed] (withFault rearFault ⟨50, .failing, true⟩ riding)
    let sent (s : State) : Option Frame := (runSelector s).tx.attempt.map Attempt.frame
    sent (s.setTx { s.tx with notices := s.tx.notices.put 16 true }) =
        some ⟨0x7C2, [17, 0x02, 0x27, 2, 2, 1, 0, 0]⟩ ∧
      sent (s.setTx { s.tx with beaconDue := true }) = some ⟨0x7C3, [0x02, 4, 0, 0, 1, 0, 0, 0]⟩ := by
  decide +kernel

/-- Section 12.5: a CONFIRMED record of RUNNING in NORMAL has byte 1 0x12; a valid capture of signal 10 with the
value 612 is 0x8A 0x64 0x02. -/
theorem test_record_image :
    (recordFor 16 .confirmed).image.take 3 = [17, 0x12, 1] ∧
      (CaptureItem.mk 10 612 true).image = [0x8A, 0x64, 0x02] := by decide

/-- Chapter 11: bytes that sum to 70000 have the check value 0xEE8F. -/
theorem test_check_value_of_region :
    checkValue (List.replicate 274 255 ++ [130]) = 0xEE8F := by decide +kernel

/-! ### Witnesses: the machine -/

theorem witness_StepRunsFrontCommand :
    (riding.setPending [.busError, .attemptSuccess]).pending = .busError :: [.attemptSuccess] := rfl

theorem witness_CommandsComplete :
    fitsFrame (Instr.busError).frameBytes = true ∧
      fitsFrame (Instr.status (List.replicate 7 0)).frameBytes = true ∧
      fitsFrame (Instr.status (List.replicate 8 0)).frameBytes = false ∧
      (State.reset.setInReset true).inReset = true ∧ Instr.busError ≠ .powerOnReset := by decide +kernel

/-- A RUNNING WINDOW monitor, an IDLE one, in NORMAL; and the band DEEP. -/
theorem witness_TickCountsTimers :
    let e := { wheelEntry with mode := .window }
    let s := withEntry e riding
    (s.pending = [] ∧ s.inReset = false ∧ s.ride.band ≠ .deep) ∧
      (timedEntry s.tables 4 = some e ∧ (s.monitors.at 4).running = true ∧ (s.monitors.at 5).running = false) ∧
      (State.reset.pending = [] ∧ State.reset.inReset = false ∧ State.reset.ride.band = .deep) := by
  decide +kernel

/-- One tick brings the IGN filter to 20, a change of band, a monitor to 0 and a load to its bound; each is queued. -/
theorem witness_TickCountsTimers_due :
    let s := (withWatch WatchRuntime.initial ⟨true, 1, 0, none⟩ riding).setPins
      { riding.pins with ign := .low, vsense := 8000 }
    let t := (s.setRide { s.ride with ignCount := 19 }).setStore { s.store with op := some ⟨.load, 59⟩ }
    t.pending = [] ∧ t.inReset = false ∧
      (tick t).pending = [.ignFilterChange .low, .supplyBandChange 8000, .monitorExpiry 4, .loadCompletion] := by
  decide +kernel

theorem witness_PowerOnResetEnteredAndLeft : (State.reset.setInReset true).inReset = true := rfl

/-! ### Witnesses: Chassis segment -/

theorem witness_IgnoredFramesChangeNothing :
    (portTakes State.reset = false ∧ (List.replicate 8 (0 : Byte)).length ≤ 8) ∧
      (inState .asleep).ride.state = .asleep ∧ (inState .settling).ride.state = .settling ∧
      (riding.setMgmt { riding.mgmt with inbox := .answered }).mgmt.inbox ≠ .empty ∧
      (riding.setTx { riding.tx with offline := some 100 }).tx.offline ≠ none := by decide +kernel

/-- The count at 120 reaches 128; at 119 it does not; DOWN at 255; a due silence timer, LIVE and DOWN. -/
theorem witness_ErrorsAndSilenceTakePortDown :
    let a := withPort 120 .live none riding
    let b := withPort 119 .live none riding
    let c := withPort 255 .down none riding
    let d := withPort 0 .live (some 0) riding
    let e := withPort 130 .down (some 0) riding
    (a.inReset = false ∧ portTakes a = true ∧ a.chassis.condition = .live ∧
        128 ≤ min (a.chassis.errorCount + 8) 255) ∧
      (portTakes b = true ∧ min (b.chassis.errorCount + 8) 255 < 128) ∧
      (portTakes c = true ∧ c.chassis.condition = .down) ∧
      (d.inReset = false ∧ d.ride.state.isRunning = true ∧ d.ride.band ≠ .deep ∧ d.chassis.silence = some 0 ∧
        d.chassis.condition = .live) ∧
      (e.chassis.silence = some 0 ∧ e.chassis.condition = .down) := by decide +kernel

/-- A DOWN port at 96, which becomes LIVE, and at 97, which does not; the silence timer of CONFIGURE. -/
theorem witness_FrameAccountedByPort :
    let a := withPort 96 .down none riding
    let b := withPort 97 .down none (inState .configure)
    (a.inReset = false ∧ portTakes a = true ∧ a.chassis.errorCount - 1 < 96) ∧
      (a.chassis.condition = .down ∧ b.chassis.condition = .down) ∧
      (b.inReset = false ∧ portTakes b = true ∧ ¬b.chassis.errorCount - 1 < 96) ∧
      (portTakes riding = true ∧ riding.chassis.condition = .live) := by decide +kernel

/-- In CONFIGURE with a full queue and with room; a frame on a part identifier; and an unknown frame in RUNNING. -/
theorem witness_UnscreenedFrameDisposed :
    let full := (inState .configure).setTx { State.reset.tx with queue := List.replicate 8 ⟨0x100, []⟩ }
    (portTakes full = true ∧ full.passThrough = true ∧ ¬full.tx.queue.length < 8) ∧
      (sending .queueHead full).tx.attempt = some ⟨⟨0x120, []⟩, .queueHead, false⟩ ∧
      ((inState .configure).passThrough = true ∧ portTakes (inState .configure) = true ∧
        isPartId (inState .configure).strap 0x7C3 = true) ∧
      (portTakes State.reset = false ∧ portTakes riding = true ∧ riding.passThrough = false ∧
        watchNaming riding.tables 0x121 = none) := by decide +kernel

theorem witness_UnscreenedFrameDisposed_unknown :
    ∀ w e, riding.tables.watch.at w = some e → e.identifier ≠ 0x121 := by
  intro w e h
  have : ∀ w, (riding.tables.watch.at w).all (fun e => e.identifier != 0x121) = true := by decide +kernel
  simpa [h] using this w

/-- The premises of `ArrivalScreened` and `ArrivalForwarded` on entry 4. -/
theorem witness_ArrivalScreened :
    riding.inReset = false ∧ portTakes riding = true ∧ riding.passThrough = false ∧
      watchNaming riding.tables 0x120 = some 4 ∧ riding.tables.watch.at 4 = some wheelEntry ∧
      riding.chassis.condition = .live := by
  decide +kernel

/-- A frame checked and not repeated; a wrong length; a wrong checksum; a repeat. -/
theorem witness_ArrivalScreened_clauses :
    let s := withWatch ⟨.fresh, some (wheelBytes 10 0x3A), some 10⟩ Monitor.initial riding
    let checked (p : List Byte) : Bool :=
      p.length = wheelEntry.expectedLength ∧ p.getD 7 0 = frameCheck ⟨7, 0x5A⟩ p
    let repeated (p : List Byte) : Bool :=
      (s.watchRt.at 4).previousAlive = some (AliveField.received ⟨6, false⟩ p)
    (checked (wheelBytes 11 0x39) = true ∧ repeated (wheelBytes 11 0x39) = false) ∧
      checked (List.replicate 7 0) = false ∧ checked (wheelBytes 11 0x3A) = false ∧
      (checked (wheelBytes 10 0x3A) = true ∧ repeated (wheelBytes 10 0x3A) = true) := by decide +kernel

/-- An arrival under each monitor mode, with an earlier arrival in WINDOW mode, and the alive values of a restart. -/
theorem witness_ArrivalScreened_timing :
    ∀ m ∈ [MonitorMode.retrigger, .window, .period],
      let e := { wheelEntry with mode := m }
      let s := withWatch ⟨.fresh, none, some 10⟩ ⟨true, 5, 255, some 4⟩ (withEntry e riding)
      s.inReset = false ∧ portTakes s = true ∧ s.passThrough = false ∧ s.chassis.condition = .live ∧
        watchNaming s.tables 0x120 = some 4 ∧ s.tables.watch.at 4 = some e ∧ e.deadline ≠ 0 ∧
        (s.monitors.at 4).running = true ∧ (s.watchRt.at 4).previousAlive = some 10 ∧
        AliveField.received ⟨6, false⟩ (wheelBytes 0 0x44) = 0 := by decide +kernel

/-- Attempts of the frame in the slot of entry 4, and of another item, at an arrival and at a due expiry. -/
theorem witness_attempts :
    ∀ i ∈ [Item.slot 4, .slot 5, .response],
      let s := sending i (withWatch ⟨.fresh, some (wheelBytes 1 0x43), some 1⟩ ⟨true, 0, 8, none⟩ riding)
      s.tx.attempt = some ⟨⟨0x120, []⟩, i, false⟩ ∧ portTakes s = true ∧ wheelEntry.policy = .hold ∧
        (s.watchRt.at 4).lastGood ≠ none ∧ (s.monitors.at 4).remaining = 0 := by decide +kernel

/-- Every policy on the same frame. -/
theorem witness_ArrivalForwarded :
    ∀ p ∈ [ForwardPolicy.none, .pass, .drop, .hold],
      let s := withEntry { wheelEntry with policy := p } riding
      portTakes s = true ∧ watchNaming s.tables 0x120 = some 4 ∧
        s.tables.watch.at 4 = some { wheelEntry with policy := p } := by decide +kernel

/-! ### Witnesses: monitors, signals, votes -/

/-- A due RETRIGGER monitor with a last-good payload, and a due WINDOW one without; HOLD and DROP. -/
theorem witness_MonitorExpiryMarksStale :
    let due : Monitor := ⟨true, 0, 8, none⟩
    let a := withWatch ⟨.fresh, some (wheelBytes 1 0x43), some 1⟩ due riding
    let e := { wheelEntry with mode := .window, policy := .drop }
    let b := withWatch WatchRuntime.initial due (withEntry e riding)
    (a.inReset = false ∧ a.ride.band ≠ .deep ∧ a.tables.watch.at 4 = some wheelEntry ∧
        wheelEntry.deadline ≠ 0 ∧ wheelEntry.mode ≠ .period ∧ (a.monitors.at 4).running = true ∧
        (a.monitors.at 4).remaining = 0 ∧ (a.watchRt.at 4).lastGood = some (wheelBytes 1 0x43)) ∧
      (b.tables.watch.at 4 = some e ∧ e.mode ≠ .period ∧ (b.monitors.at 4).remaining = 0 ∧ e.policy ≠ .hold ∧
        (b.watchRt.at 4).lastGood = none) := by decide +kernel

/-- PERIOD monitors due with 0 arrivals, with the burst limit and with one more. -/
theorem witness_PeriodExpiryJudgesArrivals :
    ∀ n ∈ [0, 1, 2],
      let e := { wheelEntry with mode := .period }
      let s := withWatch ⟨.fresh, some (wheelBytes 1 0x43), some 1⟩ ⟨true, 0, n, none⟩ (withEntry e riding)
      s.inReset = false ∧ s.ride.band ≠ .deep ∧ s.tables.watch.at 4 = some e ∧ e.deadline ≠ 0 ∧
        e.mode = .period ∧ e.burstLimit = 1 ∧ (s.monitors.at 4).running = true ∧
        (s.monitors.at 4).remaining = 0 ∧ (s.monitors.at 4).arrivals = n := by decide +kernel

theorem witness_SubstituteBuilt :
    wheelEntry.consistent = true ∧ (wheelBytes 1 0x43).length = wheelEntry.expectedLength ∧
      wheelEntry.checksum = some ⟨7, 0x5A⟩ ∧ wheelEntry.staleMarker = some 5 := by decide

/-- An UNSIGNED field, a SIGNED one with its sign bit clear, and one of length 1 with it set. -/
theorem witness_FieldExtracted :
    1 ≤ rearWheel.length ∧ rearWheel.signedness = .unsigned ∧
      extract { rearWheel with signedness := .signed } (wheelBytes 0 0) = 4416 ∧
      extract { rearWheel with startBit := 63, length := 1, signedness := .signed } (wheelBytes 0 0x80) = -1 := by
  decide

/-- Sums above, below and within the engineering range, at its limits. -/
theorem witness_EngineeringValueScaled :
    let e := { rearWheel with gain := 1, shift := 0 }
    scale e 32768 = 32767 ∧ scale e 32767 = 32767 ∧ scale e (-32768) = -32768 ∧ scale e (-32769) = -32768 := by
  decide

theorem witness_FrameEvaluatesSignals :
    riding.tables.signals.at 11 = some rearWheel ∧ rearWheel.watch = 4 ∧ riding.tables.signals.at 10 = none ∧
      (evaluateFrame 4 (wheelBytes 0 0) riding).signalRt.at 11 = ⟨some 690, some 690, 1⟩ := by decide +kernel

/-- Role updates in RUNNING and in CONFIGURE: a change to CRANKING and none; a prove-out that has outlasted the timer
and one that has not. -/
theorem witness_FrameEvaluatesSignals_roles :
    let lamps (timer : Option Nat) : State := riding.setLamps
      { riding.lamps with abs := { riding.lamps.abs with proveOut := true }, proveTimer := timer }
    (riding.ride.state.isRunning = true ∧ engineState 1 riding.ride.state ≠ riding.ride.state ∧
        engineState 2 riding.ride.state = riding.ride.state ∧ (inState .configure).ride.state = .configure) ∧
      ((lamps none).lamps.abs.proveOut = true ∧ (lamps none).lamps.proveTimer = none ∧
        (lamps none).mgmt.unconfigured = false ∧ (lamps none).ride.band ≠ .deep) ∧
      (lamps (some 5)).lamps.proveTimer ≠ none := by decide +kernel

theorem witness_VoteAgreementAllowance :
    speedVote.legal = true ∧
      ({ speedVote with absoluteTolerance := 32767, relativeTolerance := 255 } : VoteRule).legal = true := by
  decide

/-- Three signals on entry 4, FRESH, with the given values. -/
def voting (a b c : Int) : State :=
  let t := riding.tables
  let plain := { rearWheel with role := .none }
  ((riding.setTables { t with
    signals := (t.signals.put 10 (some plain)).put 30 (some plain) }).setWatchRt
      (riding.watchRt.put 4 ⟨.fresh, none, none⟩)).setSignalRt
      (((riding.signalRt.put 10 ⟨some a, none, 0⟩).put 11 ⟨some b, none, 0⟩).put 30 ⟨some c, none, 0⟩)

/-- The six ways in which three members can agree, each from a state with FRESH members above the floor. -/
theorem witness_ThreeMemberOutcome :
    ∀ x ∈ [((612, 612, 612), (true, true, true)), ((900, 612, 612), (false, false, true)),
        ((612, 900, 612), (false, true, false)), ((612, 612, 900), (true, false, false)),
        ((600, 635, 670), (true, false, true)), ((612, 900, 1200), (false, false, false))],
      let s := voting x.1.1 x.1.2.1 x.1.2.2
      (∀ m, m = speedVote.memberA ∨ m = speedVote.memberB ∨ m = 30 → signalFreshness s m = .fresh) ∧
        speedVote.memberC = some 30 ∧ speedVote.floor ≤ (signalValue s 10).natAbs ∧
        agree speedVote (signalValue s 10) (signalValue s 11) = x.2.1 ∧
        agree speedVote (signalValue s 10) (signalValue s 30) = x.2.2.1 ∧
        agree speedVote (signalValue s 11) (signalValue s 30) = x.2.2.2 := by decide +kernel

/-- A due vote timer; a rule with a member not FRESH; and one with every member below the floor. -/
theorem witness_VoteExpiryReloads :
    let s := (voting 49 49 (-49)).setVoteTimers (riding.voteTimers.put 0 (some 0))
    (s.inReset = false ∧ s.ride.band ≠ .deep ∧ s.tables.votes.at 0 = some speedVote ∧
        s.voteTimers.at 0 = some 0) ∧
      (∃ m ∈ speedVote.members, signalFreshness riding m ≠ .fresh) ∧
      (∀ m ∈ speedVote.members, (signalValue s m).natAbs < speedVote.floor) := by decide +kernel

/-- A due two-member rule with FRESH members above the floor that agree, and with members that do not. -/
theorem witness_VoteExpiryReloads_two :
    ∀ b ∈ [612, 900],
      let r := { speedVote with memberC := none }
      let v := voting 612 b 0
      let s := (v.setTables { v.tables with votes := v.tables.votes.put 0 (some r) }).setVoteTimers
        (v.voteTimers.put 0 (some 0))
      s.inReset = false ∧ s.ride.band ≠ .deep ∧ s.tables.votes.at 0 = some r ∧ s.voteTimers.at 0 = some 0 ∧
        signalFreshness s r.memberA = .fresh ∧ signalFreshness s r.memberB = .fresh ∧
        r.floor ≤ (signalValue s r.memberA).natAbs ∧
        agree r (signalValue s r.memberA) (signalValue s r.memberB) = decide (b = 612) := by decide +kernel

/-! ### Witnesses: faults and records -/

/-- The premises on fault 17 in a ride, with its class inactive. -/
theorem witness_SampleMovesCounter :
    riding.ride.state.isRunning = true ∧ faultNaming riding (.vote .b 0) = some 16 ∧
      riding.tables.faults.at 16 = some rearFault ∧ blanks rearFault.mask riding.ride.classes = false := by
  decide +kernel

/-- `FAILING` entered from 40, left from -18, and neither at 0. -/
theorem witness_SampleMovesVerdict :
    let up := (takeSample (.vote .b 0) .fail (withFault rearFault ⟨40, .undecided, false⟩ riding)).faultRt.at 16
    let down := (takeSample (.vote .b 0) .pass (withFault rearFault ⟨-18, .failing, true⟩ riding)).faultRt.at 16
    let still := (takeSample (.vote .b 0) .pass riding).faultRt.at 16
    rearFault.legal = true ∧ up = ⟨50, .failing, true⟩ ∧ down = ⟨-20, .passing, true⟩ ∧
      still = ⟨-2, .undecided, false⟩ := by decide +kernel

/-- A ride state that is not running, a source that feeds no fault, and a blanked fault. -/
theorem witness_SampleDiscarded :
    let s := riding.setRide { riding.ride with
      classes := { Classes.inactive with absActive := ⟨true, none⟩ } }
    (inState .configure).ride.state.isRunning = false ∧ faultNaming riding (.vote .a 0) = none ∧
      (faultNaming s (.vote .b 0) = some 16 ∧ s.tables.faults.at 16 = some rearFault ∧
        blanks rearFault.mask s.ride.classes = true) := by decide +kernel

theorem witness_SampleDiscarded_noFault :
    ∀ f d, riding.tables.faults.at f = some d → d.source ≠ .vote .a 0 := by
  intro f d h
  have : ∀ f, (riding.tables.faults.at f).all (fun d => d.source != .vote .a 0) = true := by decide +kernel
  simpa [h] using this f

/-- Fault 17 one fail below FAILING: with no record and room, and with a HEALED record. -/
theorem witness_FailingIsRecorded :
    let s := withFault rearFault ⟨40, .undecided, false⟩ riding
    let r := recordFor 16 .healed
    let t := withRecords [recordFor 3 .pending, r] s
    (s.ride.state.isRunning = true ∧ faultNaming s (.vote .b 0) = some 16 ∧
        s.tables.faults.at 16 = some rearFault ∧ blanks rearFault.mask s.ride.classes = false ∧
        (s.faultRt.at 16).verdict ≠ .failing ∧
        (rearFault.confirm : Int) ≤ failStep rearFault (s.faultRt.at 16).counter ∧ recordOf s 16 = none ∧
        s.memory.records.length < 20) ∧
      (faultNaming t (.vote .b 0) = some 16 ∧ (t.faultRt.at 16).verdict ≠ .failing ∧ r ∈ t.memory.records ∧
        r.fault = 16 ∧ (t.memory.records.map (·.fault)).Nodup) := by decide +kernel

/-- Twenty records of other faults, none eligible (each FAILING), and all eligible, the fourth the best. -/
theorem witness_FullMemoryChoosesVictim :
    let full (st : RecordStatus) : List FaultRecord :=
      (List.finRange 64).filterMap fun f =>
        if 40 ≤ f.val ∧ f.val < 60 then some (recordFor f (if f.val = 43 then st else .confirmed)) else none
    let s := withRecords (full .healed) (withFault rearFault ⟨40, .undecided, false⟩ riding)
    let strict := { rearFault with level := 0 }
    let t := withFault strict ⟨40, .undecided, false⟩ (withRecords (full .confirmed)
      (((riding.setTables { riding.tables with
        faults := Table.build fun f => some { rearFault with level := 3, source := .frame .missing (Fin.ofNat 32 f.val) } }))))
    (s.ride.state.isRunning = true ∧ faultNaming s (.vote .b 0) = some 16 ∧ recordOf s 16 = none ∧
        s.memory.records.length = 20 ∧ (s.memory.records.map (·.fault)).Nodup ∧
        s.memory.records = s.memory.records.take 3 ++ recordFor 43 .healed :: s.memory.records.drop 4 ∧
        (verdictOf s 43 ≠ .failing ∧ levelOf s 43 ≤ rearFault.level) ∧ rearFault.level ≤ 3 ∧
        (∀ r ∈ s.memory.records.take 3, 0 < r.status.victimRank * 4 + levelOf s r.fault) ∧
        (∀ r ∈ s.memory.records.drop 4, 0 ≤ r.status.victimRank * 4 + levelOf s r.fault) ∧
        (recordFor 43 .healed).status.victimRank * 4 + levelOf s 43 = 0) ∧
      (faultNaming t (.vote .b 0) = some 16 ∧ (t.faultRt.at 16).verdict ≠ .failing ∧ recordOf t 16 = none ∧
        t.memory.records.length = 20 ∧ (t.memory.records.map (·.fault)).Nodup ∧
        ∀ r ∈ t.memory.records, ¬(verdictOf t r.fault ≠ .failing ∧ levelOf t r.fault ≤ strict.level)) := by
  decide +kernel

/-! ### Witnesses: ride, supply and store -/

theorem witness_IgnitionHighWakes :
    let s := atCount State.reset
    s.inReset = false ∧ s.ride.state = .asleep ∧ s.ride.ign = .low ∧ s.ride.ignCount = 20 := by decide +kernel

/-- A qualified ride with a CONFIRMED record whose fault passed; unqualified ones with the region dirty and not. -/
theorem witness_IgnitionLowClosesRide :
    let q := withRecords [recordFor 16 .confirmed] (withFault rearFault ⟨-20, .passing, false⟩
      (atCount (riding.setRide { riding.ride with runTime := 60000, speedReached := true })))
    let d := atCount (riding.setMemory { riding.memory with dirty := true })
    let n := atCount riding
    (q.inReset = false ∧ q.ride.state.isRunning = true ∧ q.ride.ign = .high ∧ q.ride.ignCount = 20 ∧
        q.store.op = none ∧
        q.tables.settings.qualifyRun * 1000 ≤ q.ride.runTime ∧ q.ride.speedReached = true) ∧
      (d.store.op = none ∧ d.ride.ignCount = 20 ∧ d.ride.speedReached = false ∧ d.memory.dirty = true) ∧
      (n.store.op = none ∧ n.ride.ignCount = 20 ∧ n.ride.speedReached = false ∧ n.memory.dirty = false) ∧
      (sending .queueHead d).tx.attempt = some ⟨⟨0x120, []⟩, .queueHead, false⟩ := by
  decide +kernel

/-- A count of 19 and of 20 with the level as it is; CONFIGURE with the inbox EMPTY and with work; the levels that
change nothing. -/
theorem witness_IgnitionLowClosesRide_levels :
    let c := atCount (inState .configure)
    let w := c.setMgmt { c.mgmt with inbox := .working .abandon }
    ((riding.setRide { riding.ride with ignCount := 19 }).ride.ignCount ≠ 20 ∧ (atCount riding).ride.ign = .high) ∧
      (c.inReset = false ∧ c.ride.ignCount = 20 ∧ c.ride.ign ≠ .low ∧ c.ride.state = .configure ∧
        c.mgmt.inbox = .empty) ∧
      w.mgmt.inbox = .working .abandon ∧
      (∀ st ∈ [RideState.settling, .closing], (atCount (inState st)).ride.ign ≠ .low ∧
        (atLow (atCount (inState st))).ride.ign ≠ .high ∧ (inState st).ride.state ≠ .asleep) := by
  decide +kernel

/-- Each band. -/
theorem witness_SupplyBandFollowsSample :
    let inBand (b : Band) : State := riding.setRide { riding.ride with band := b }
    (∀ b ∈ [Band.normal, .low, .deep], (inBand b).inReset = false ∧ (inBand b).ride.band = b ∧
        (inBand b).ride.state.isRunning = true) ∧
      (nextBand 6499 .normal = .deep ∧ nextBand 6500 .normal = .low ∧ nextBand 8499 .normal = .low ∧
        nextBand 8500 .normal = .normal ∧ nextBand 8999 .low = .low ∧ nextBand 9000 .low = .normal ∧
        nextBand 6999 .deep = .deep ∧ nextBand 7000 .deep = .low ∧ nextBand 12000 .deep = .low) ∧
      (inState .configure).ride.state = .configure ∧ (inState .configure).ride.band = .normal ∧
      (inState .closing).ride.state.isRunning = false := by decide +kernel

/-- A FLASH request held STEADY in DEEP enters FLASH when the band leaves DEEP (R146, R147). -/
theorem test_lamp_leaves_deep :
    let held : LampState := ⟨.flash, some 300, none, false, .steady, none⟩
    let s := (riding.setRide { riding.ride with band := .deep }).setLamps ⟨held, .initial, none⟩
    (nextOf (exec (.supplyBandChange 7000) s) s).lamps =
      ⟨{ held with displayed := .flash, phase := some ⟨true, 250⟩ }, .initial, none⟩ := by decide +kernel

theorem witness_BlankingTimersEndClasses :
    let due : BlankingClass := ⟨true, some 0⟩
    let s := riding.setRide { riding.ride with classes := ⟨due, due, due, due, due⟩ }
    s.inReset = false ∧ s.ride.band ≠ .deep ∧ (∀ c ∈ [TailClass.crank, .lowSupply, .absActive, .portDown],
      (s.ride.classes.get c).timer = some 0) ∧ s.ride.classes.ignition.timer = some 0 := by decide +kernel

/-- The prove-out timer due, with and without an ABS_READY signal; a stretch and a half-cycle due. -/
theorem witness_LampTimersExpireInTurn :
    let lamp : LampState := ⟨.off, some 0, some .flash, false, .flash, some ⟨true, 0⟩⟩
    let s := riding.setLamps ⟨lamp, { lamp with proveOut := true }, some 0⟩
    let t := s.setTables { s.tables with
      signals := s.tables.signals.put 11 (some { rearWheel with role := .absReady }) }
    (s.inReset = false ∧ s.ride.band ≠ .deep ∧ s.lamps.proveTimer = some 0 ∧ roleHolder s .absReady = none ∧
        s.ride.state.isRunning = true ∧ s.mgmt.unconfigured = false) ∧
      (t.lamps.proveTimer = some 0 ∧ roleHolder t .absReady = some 11 ∧ roleValue t .absReady = 0 ∧
        roleValue (t.setSignalRt (t.signalRt.put 11 ⟨some 1, none, 0⟩)) .absReady ≠ 0) ∧
      ((s.lamps.get .engine).stretch = some 0 ∧ (s.lamps.get .engine).proveOut = false ∧
        (s.lamps.get .engine).phase = some ⟨true, 0⟩) := by decide +kernel

/-- Worked sequence of chapter 8, the engine lamp at 3000, 3400, 5000, 5600 and, in DEEP, 5750; a FLASH that DEEP
holds. -/
theorem test_lamp_sequence :
    let deep := riding.setRide { riding.ride with band := .deep }
    let flashing : LampState := ⟨.flash, some 400, none, false, .flash, some ⟨true, 150⟩⟩
    riding.tables.settings.lampStretch = 1000 ∧
      updateLamp riding .steady .initial = ⟨.steady, some 1000, none, false, .steady, none⟩ ∧
      updateLamp riding .off ⟨.steady, some 600, none, false, .steady, none⟩ =
        ⟨.off, some 600, some .steady, false, .steady, none⟩ ∧
      updateLamp riding .flash .initial = ⟨.flash, some 1000, none, false, .flash, some ⟨true, 250⟩⟩ ∧
      updateLamp riding .steady flashing = ⟨.steady, some 400, none, false, .steady, none⟩ ∧
      updateLamp deep .off ⟨.steady, some 300, none, false, .steady, none⟩ =
        ⟨.off, some 300, some .steady, false, .steady, none⟩ ∧
      updateLamp deep .steady flashing = { flashing with request := .steady } := by decide +kernel

/-- A region that holds a content, its check value and the state byte 1. -/
def regionHolding (content : List Byte) : List Host.Cell :=
  Mem.ofBytes storeFill 0 (content ++ (le16 (checkValue content) ++ [1]))

theorem regionHolding_read (content : List Byte) (a : Nat) :
    Mem.read storeFill (regionHolding content) a =
      (content ++ (le16 (checkValue content) ++ [1])).getD a storeFill := by
  rw [← Mem.read_ofBytes storeFill 0, Nat.zero_add]
  rfl

theorem regionHolding_content (content : List Byte) :
    regionContent content.length (regionHolding content) = content := by
  apply List.ext_getElem
  · simp [regionContent, Mem.bytes]
  · intro i h₁ h₂
    simp [regionContent, Mem.bytes, regionHolding_read, List.getElem?_append_left h₂, h₂]

theorem u16_le16 {n : Nat} (h : n < 65536) : u16 (byteOf n) (byteOf (n / 256)) = n := by
  simp [u16, byteOf]; omega

theorem regionHolding_valid (content : List Byte) (h : content.head? = some 0) :
    regionValid content.length (regionHolding content) = true := by
  have hv := u16_le16 (n := checkValue content) (by simp only [checkValue]; omega)
  obtain _ | ⟨b, bs⟩ := content
  · simp at h
  have hb : b = 0 := by simpa using h
  have first : Mem.read storeFill (regionHolding (b :: bs)) 0 = 0 := by
    rw [regionHolding_read, hb]; rfl
  have content := regionHolding_content (b :: bs)
  have some_byte : (regionContent ((b :: bs).length + 2) (regionHolding (b :: bs))).all (· == 0xFF) = false := by
    rw [List.all_eq_false]
    refine ⟨0, ?_, by decide⟩
    simp only [regionContent, Mem.bytes, List.mem_map, List.mem_range]
    exact ⟨0, by omega, first⟩
  rw [regionValid, content, some_byte]
  simp [regionHolding_read, le16, hv]

/-- The content of a TABLES region with entries of the part's own writing. -/
def writtenTables : List Byte := Tables.content { someTables with faults := Tables.empty.faults }

/-- The content of a MEMORY region with a record, under ride number 256. -/
def writtenMemory : List Byte := memoryContent 256 [recordFor 16 .confirmed]

/-- A load about to complete over a written store. -/
def loading : State :=
  (inState .settling).setStore
    ⟨regionHolding writtenTables, regionHolding writtenMemory, some ⟨.load, 1⟩, false⟩

theorem witness_LoadStartsRide :
    loading.inReset = false ∧ loading.store.op = some ⟨.load, 1⟩ ∧ loading.ride.ign = .high ∧
      regionValid tablesSize loading.store.tables = true ∧ regionValid memorySize loading.store.memory = true ∧
      holdsPartId loading.strap (Tables.ofContent (regionContent tablesSize loading.store.tables)) = false := by
  have lt : writtenTables.length = tablesSize := by decide +kernel
  have lm : writtenMemory.length = memorySize := by decide +kernel
  refine ⟨rfl, rfl, rfl, ?_, ?_, ?_⟩
  · rw [← lt]; exact regionHolding_valid _ (by decide +kernel)
  · rw [← lm]; exact regionHolding_valid _ (by decide +kernel)
  · have content : regionContent tablesSize loading.store.tables = writtenTables :=
      lt ▸ regionHolding_content writtenTables
    rw [content]; decide +kernel

/-- A load about to complete over the erased store of a part as delivered. -/
theorem witness_LoadStartsRide_lost :
    let s := withOp .load (inState .settling)
    s.inReset = false ∧ s.store.op = some ⟨.load, 1⟩ ∧ s.ride.ign = .high ∧
      regionValid tablesSize s.store.tables = false ∧ regionValid memorySize s.store.memory = false := by
  decide +kernel

/-- The ports of the load are LIVE and ACTIVE; the same load with IGN LOW, in SETTLING. -/
theorem witness_LoadStartsRide_levels :
    (loading.chassis.condition = .live ∧ loading.tx.offline = none) ∧
      (atLow loading).inReset = false ∧ (atLow loading).store.op = some ⟨.load, 1⟩ ∧
      (atLow loading).ride.ign = .low ∧ (atLow loading).ride.state = .settling := ⟨⟨rfl, rfl⟩, rfl, rfl, rfl, rfl⟩

theorem witness_MemoryWriteCompletes :
    let s := withOp .memoryWrite (inState .closing)
    let low := s.setRide { s.ride with ign := .low }
    (s.inReset = false ∧ s.store.op = some ⟨.memoryWrite, 1⟩ ∧ areasCanonical s = true ∧ s.ride.ign = .high) ∧
      (low.store.op = some ⟨.memoryWrite, 1⟩ ∧ areasCanonical low = true ∧ low.ride.ign = .low) := by
  decide +kernel

theorem witness_CommitCompletes :
    let s := (withOp .tablesWrite (inState .configure)).setMgmt
      { State.reset.mgmt with inbox := .working (.commit 2) }
    s.inReset = false ∧ s.store.op = some ⟨.tablesWrite, 1⟩ ∧ areasCanonical s = true ∧
      s.mgmt.inbox = .working (.commit 2) ∧ s.ride.ign = .high ∧
      ((atLow s).ride.ign = .low ∧ (atLow s).ride.state = .configure) := by decide +kernel

theorem witness_AbandonCompletes :
    let s := (withOp .reload (inState .configure)).setMgmt { State.reset.mgmt with inbox := .working .abandon }
    s.inReset = false ∧ s.store.op = some ⟨.reload, 1⟩ ∧ s.mgmt.inbox = .working .abandon ∧
      s.ride.ign = .high ∧ regionValid tablesSize s.store.tables = false ∧
      ((atLow s).ride.ign = .low ∧ (atLow s).ride.state = .configure) := by decide +kernel

/-- A reload about to complete over a valid region. -/
theorem witness_AbandonCompletes_valid :
    let c := (inState .configure).setMgmt { State.reset.mgmt with inbox := .working .abandon }
    let s := c.setStore { loading.store with op := some ⟨.reload, 1⟩ }
    s.inReset = false ∧ s.store.op = some ⟨.reload, 1⟩ ∧ s.mgmt.inbox = .working .abandon ∧ s.ride.ign = .high ∧
      regionValid tablesSize s.store.tables = true ∧
      holdsPartId s.strap (Tables.ofContent (regionContent tablesSize s.store.tables)) = false :=
  ⟨rfl, rfl, rfl, rfl, witness_LoadStartsRide.2.2.2.1, witness_LoadStartsRide.2.2.2.2.2⟩

/-! ### Witnesses: Cluster transmission -/

/-- One state for each step of the selector, and one with nothing to send. -/
theorem witness_SelectorTakesHighestItem :
    let with_ (f : Transmitter → Transmitter) : State := riding.setTx (f riding.tx)
    let response := with_ fun t => { t with response := some ⟨0x10, .ok, []⟩ }
    let notice := with_ fun t => { t with notices := (t.notices.put 16 true).put 2 true }
    let slot := with_ fun t => { t with slots := t.slots.put 4 (some ⟨0x120, []⟩) }
    let queue := (with_ fun t => { t with queue := [⟨0x100, []⟩] }).setRide { riding.ride with state := .configure }
    let beacon := with_ fun t => { t with beaconDue := true }
    let item (s : State) : Option Item := (runSelector s).tx.attempt.map Attempt.item
    (∀ s ∈ [response, notice, slot, queue, beacon, riding], transmitterFree s = true) ∧
      item response = some .response ∧ item notice = some (.notice 16) ∧ item slot = some (.slot 4) ∧
      item queue = some .queueHead ∧ item beacon = some .beacon ∧ item riding = none ∧
      transmitterFree (with_ fun t => { t with offline := some 100 }) = false := by decide +kernel

/-- An attempt of each item. -/
theorem witness_AttemptSuccessCompletesItem :
    ∀ i ∈ [Item.response, .notice 16, .slot 4, .queueHead, .beacon, .gone],
      let s := riding.setTx { riding.tx with attempt := some ⟨⟨0x120, []⟩, i, false⟩ }
      s.inReset = false ∧ s.tx.attempt = some ⟨⟨0x120, []⟩, i, false⟩ := by decide +kernel

/-- The error counts at which the port stays ACTIVE and goes OFFLINE. -/
theorem witness_AttemptFailureKeepsItem :
    let s (n : Nat) : State := riding.setTx { riding.tx with
      attempt := some ⟨⟨0x120, []⟩, .beacon, false⟩, errorCount := n }
    ((s 247).inReset = false ∧ (s 247).tx.attempt.isSome = true ∧ (s 247).tx.errorCount + 8 < 256) ∧
      (s 248).tx.attempt.isSome = true ∧ 256 ≤ (s 248).tx.errorCount + 8 := by decide +kernel

theorem witness_OfflineAndBeaconTimersExpire :
    let s := riding.setTx { riding.tx with
      offline := some 0, beaconTimer := some 0, attempt := some ⟨⟨0x7C3, []⟩, .beacon, false⟩ }
    s.inReset = false ∧ s.tx.offline = some 0 ∧ s.tx.beaconTimer = some 0 ∧
      s.tx.attempt = some ⟨⟨0x7C3, []⟩, .beacon, false⟩ := by decide +kernel

/-! ### Witnesses: requests -/

/-- An unknown code and a frame of length 0, in RUNNING and in CLOSING; a request not permitted; one too short. -/
theorem witness_UnknownRefusedAndShortAnswered :
    (∀ s ∈ [riding, inState .closing], s.inReset = false ∧ takesRequest s = true) ∧
      (namesNoRequest [] = true ∧ namesNoRequest [0x15] = true) ∧
      (RequestName.ofCode 0x40 = some .enterConfigure ∧
        RequestName.permitted .enterConfigure riding.ride.state = false) ∧
      (RequestName.ofCode 0x21 = some .writeBuffer ∧
        RequestName.permitted .writeBuffer riding.ride.state = true ∧ ([0x00] : List Byte).length < 2) ∧
      (Instr.enterConfigure []).frameBytes = [0x40] ∧ (Instr.writeBuffer [0x00]).frameBytes = [0x21, 0x00] := by
  decide +kernel

theorem witness_StatusAnswers :
    (requestsOpen riding = true ∧ requestsOpen (inState .configure) = true) ∧
      (riding.setMgmt { riding.mgmt with inbox := .answered }).mgmt.inbox ≠ .empty := by decide +kernel

/-- Fault numbers 0, 17, 18, 64 and 65; signal indices 11, 12, 63 and 64. -/
theorem witness_FaultAndSignalReadings :
    requestsOpen riding = true ∧ riding.tables.faults.at 16 = some rearFault ∧
      riding.tables.faults.at 17 = none ∧ (0x40 : Byte).toNat = (63 : Fin 64).val + 1 ∧
      64 < (0x41 : Byte).toNat ∧ riding.tables.signals.at 11 = some rearWheel ∧
      riding.tables.signals.at 12 = none ∧ (0x3F : Byte).toNat = (63 : Fin 64).val ∧
      64 ≤ (0x40 : Byte).toNat := by decide +kernel

/-- Entry 4 with a deadline and without; the greatest remaining time and arrivals; indices 31 and 32. -/
theorem witness_PeekMonitorAnswers :
    let s := withWatch WatchRuntime.initial ⟨true, 131070, 255, none⟩ riding
    let t := withEntry { wheelEntry with deadline := 0 } riding
    (requestsOpen s = true ∧ s.tables.watch.at 4 = some wheelEntry ∧ wheelEntry.deadline ≠ 0 ∧
        (s.monitors.at 4).remaining ≤ 131070 ∧ (s.monitors.at 4).arrivals ≤ 255) ∧
      (requestsOpen t = true ∧ t.tables.watch.at 4 = some { wheelEntry with deadline := 0 }) ∧
      (s.tables.watch.at 31 = none ∧ (0x1F : Byte).toNat = (31 : Fin 32).val ∧ 32 ≤ (0x20 : Byte).toNat) := by
  decide +kernel

/-- A record at position 0 and none at 1; offsets 31 and 32; 5 bytes from 27 and from 28; no byte. -/
theorem witness_RecordAndBufferRequestsAnswer :
    let s := withRecords [recordFor 16 .confirmed] riding
    (requestsOpen s = true ∧ s.memory.records[0]? = some (recordFor 16 .confirmed) ∧
        s.memory.records.length ≤ (0x01 : Byte).toNat) ∧
      areasCanonical s = true ∧ (0x1F : Byte).toNat ≤ 31 ∧ 32 ≤ (0x20 : Byte).toNat ∧
      (0x1B : Byte).toNat + min 5 5 ≤ 32 ∧ 32 < (0x1C : Byte).toNat + min 5 5 := by decide +kernel

/-- A record that CLEAR RECORDS removes and a FAILING one that it keeps. -/
theorem witness_ClearRecordsAnswers :
    let s := withRecords [recordFor 3 .healed, recordFor 16 .confirmed]
      (withFault rearFault ⟨50, .failing, true⟩ riding)
    requestsOpen s = true ∧ s.tables.faults.at 3 = none ∧ (s.faultRt.at 16).verdict = .failing ∧
      rearFault.group.code = 1 ∧ (0x02 : Byte).getLsbD 1 = true := by decide +kernel

theorem witness_SetNoticeMaskAnswers :
    requestsOpen riding = true ∧ (0x04 : Byte).toNat ≤ 4 ∧ 4 < (0x05 : Byte).toNat := by decide +kernel

/-- KEY_ON at speed 0 and at another speed. -/
theorem witness_EnterConfigureAnswers :
    let s := inState .keyOn
    let fast := s.setSignalRt (s.signalRt.put 11 ⟨some 1, none, 0⟩)
    (s.inReset = false ∧ takesRequest s = true ∧ s.ride.state = .keyOn ∧ roleValue s .vehicleSpeed = 0) ∧
      (takesRequest fast = true ∧ roleValue fast .vehicleSpeed ≠ 0) ∧
      (sending (.slot 4) s).tx.attempt = some ⟨⟨0x120, []⟩, .slot 4, false⟩ := by decide +kernel

/-- Tables that pass every check of a commit. -/
def completeTables : Tables :=
  { someTables with
    signals := ((someTables.signals.put 10 (some { rearWheel with role := .engineState })).put 30
      (some { rearWheel with role := .none })) }

theorem witness_LeaveConfigureBegins :
    let s := (inState .configure).setTables completeTables
    let o := withRecords [recordFor 3 .confirmed] s
    (o.tables.faults.at 3 = none ∧ recordFor 3 .confirmed ∈ o.memory.records ∧ commitCheck o.tables = none) ∧
      (configuring s = true ∧ commitCheck s.tables = none ∧ (0x01 : Byte).getLsbD 0 = true) ∧
      (configuring (inState .configure) = true ∧
        (commitCheck (inState .configure).tables).isSome = true ∧ (0xFE : Byte).getLsbD 0 = false) := by
  decide +kernel

theorem witness_CommitChecksTables :
    commitCheck completeTables = none ∧ (commitCheck someTables).map CommitFailure.reason = some .roleMissing := by
  decide +kernel

/-- The failure that each check reports: a signal on an EMPTY entry and one beyond its length, a vote member that is
EMPTY, a source that is EMPTY, aging before the lamp goes off. -/
theorem witness_CommitChecksTables_failures :
    let signal (e : SignalEntry) : Tables :=
      { completeTables with signals := completeTables.signals.put 20 (some { e with role := .none }) }
    let fault (d : FaultDef) : Tables :=
      { completeTables with faults := completeTables.faults.put 16 (some d) }
    commitCheck (signal { rearWheel with watch := 5 }) = some ⟨.reference, .signal, 20⟩ ∧
      commitCheck (signal { rearWheel with startBit := 49 }) = some ⟨.fieldPosition, .signal, 20⟩ ∧
      commitCheck { completeTables with
        votes := completeTables.votes.put 3 (some { speedVote with memberC := some 31 }) } =
        some ⟨.reference, .vote, 3⟩ ∧
      commitCheck (fault { rearFault with source := .vote .b 1 }) = some ⟨.reference, .fault, 17⟩ ∧
      commitCheck (fault { rearFault with agingRides := 2 }) = some ⟨.aging, .fault, 17⟩ := by decide +kernel

/-- With 9 signals on one watch entry the lowest of them fails SIGNAL_COUNT, with 8 none does (R180). -/
theorem witness_CommitChecksTables_signalCount :
    let filled (n : Nat) : Tables := { completeTables with
      signals := ((List.finRange 64).filter fun i => decide (40 ≤ i.val ∧ i.val < 40 + n)).foldl
        (fun t i => t.put i (some { rearWheel with role := .none })) completeTables.signals }
    signalCount (filled 5) 4 = 8 ∧ commitCheck (filled 5) = none ∧ signalCount (filled 6) 4 = 9 ∧
      commitCheck (filled 6) = some ⟨.signalCount, .signal, 10⟩ := by decide +kernel

/-- CONFIGURE with an image in the transfer buffer and given tables. -/
def editing (t : Tables) (image : List Byte) : State :=
  ((inState .configure).setTables t).setMgmt { State.reset.mgmt with buffer := Mem.ofBytes bufferFill 0 image }

/-- The first `n` bytes of the transfer buffer. -/
def buffered (s : State) (n : Nat) : List Byte :=
  (List.range n).map fun a => Mem.read bufferFill s.mgmt.buffer a

/-- An image of each table that passes every check. -/
theorem witness_StoreEntryStores :
    let w := editing Tables.empty wheelEntry.image
    let g := editing Tables.empty rearWheel.image
    let v := editing Tables.empty speedVote.image
    let f := editing Tables.empty rearFault.image
    (configuring w = true ∧ WatchEntry.ofImage (buffered w 17) = some wheelEntry ∧
        watchReason w 31 wheelEntry = none) ∧
      (configuring g = true ∧ SignalEntry.ofImage (buffered g 17) = some rearWheel ∧
        signalReason g 63 rearWheel = none) ∧
      (configuring v = true ∧ VoteRule.ofImage (buffered v 11) = some speedVote ∧ voteReason speedVote = none) ∧
      (configuring f = true ∧ FaultDef.ofImage (buffered f 20) = some rearFault ∧
        faultReason f 63 rearFault = none ∧ (0x40 : Byte).toNat = (63 : Fin 64).val + 1) := by decide +kernel

/-- The only signal with the role ABS_REGULATING, at a value other than 0 (R88). -/
theorem witness_StoreEntryStores_regulating :
    let tables : Tables := { Tables.empty with
      signals := Tables.empty.signals.put 63 (some { rearWheel with role := .absRegulating }) }
    let g := editing tables rearWheel.image
    let s := g.setSignalRt (g.signalRt.put 63 ⟨some 1, some 1, 1⟩)
    configuring s = true ∧ s.tables.signals.at 63 = some { rearWheel with role := .absRegulating } ∧
      (∀ j, j ≠ 63 → s.tables.signals.at j = none) ∧ (s.signalRt.at 63).value.getD 0 ≠ 0 ∧
      SignalEntry.ofImage (buffered s 17) = some rearWheel ∧ signalReason s 63 rearWheel = none ∧
      s.tables.settings.absTail = 1000 ∧
      (nextOf (exec (.eraseEntry [1, 63]) s) s).ride.classes.absActive = ⟨true, some 1000⟩ := by decide +kernel

/-- Each refusal of a watch entry, a signal and a fault definition. -/
theorem witness_StoreEntryRefuses :
    let layout := { wheelEntry with staleMarker := some 7 }
    let part := { wheelEntry with identifier := 0x7C0 }
    let low := { rearWheel with rangeLow := 3501 }
    let s := editing someTables []
    (WatchEntry.ofImage (buffered (editing someTables (List.replicate 17 0xFF)) 17) = none ∧
        layout.consistent = false ∧ part.consistent = true ∧ isPartId s.strap part.identifier = true ∧
        wheelEntry.consistent = true ∧ isPartId s.strap wheelEntry.identifier = false ∧
        s.tables.watch.at 4 = some wheelEntry) ∧
      (SignalEntry.ofImage (buffered (editing someTables (List.replicate 17 0xFF)) 17) = none ∧
        low.rangeHigh < low.rangeLow ∧ rearWheel.role ≠ .none ∧ s.tables.signals.at 11 = some rearWheel) ∧
      (FaultDef.ofImage (buffered s 20) = none ∧ s.tables.faults.at 16 = some rearFault) ∧
      (VoteRule.ofImage (buffered s 11) = none ∧
        VoteRule.ofImage (buffered (editing someTables { speedVote with memberB := 10 }.image) 11) =
          some { speedVote with memberB := 10 } ∧ speedVote.memberA = 10) ∧
      (4 < (5 : Byte).toNat ∧ 32 ≤ (32 : Byte).toNat ∧ 64 ≤ (64 : Byte).toNat ∧ 4 ≤ (4 : Byte).toNat ∧
        64 < (65 : Byte).toNat ∧ (1 : Byte) ≠ 0) ∧
      (∀ e ∈ [layout, part, wheelEntry],
        WatchEntry.ofImage (buffered (editing someTables e.image) 17) = some e) ∧
      (∀ e ∈ [low, rearWheel], SignalEntry.ofImage (buffered (editing someTables e.image) 17) = some e) ∧
      FaultDef.ofImage (buffered (editing someTables rearFault.image) 20) = some rearFault := by decide +kernel

/-- Settings above and below their ranges, and the defaults. -/
theorem witness_SettingsStoredClamped :
    let high : Settings := ⟨10001, 10001, 10001, 10001, 10001, 2001, 601, 32767, 5001, 5001, 5001, 5,
      ⟨true, false, true, false⟩⟩
    let low : Settings := ⟨0, 0, 0, 0, 0, 19, 0, -1, 999, 0, 99, 0, ⟨false, false, false, false⟩⟩
    ∀ e ∈ [high, low, { low with beaconPeriod := 199 }, Settings.default],
      configuring (editing Tables.empty e.image) = true ∧
        Settings.ofImage (buffered (editing Tables.empty e.image) 24) = some e := by decide +kernel

/-- An entry of each table present, and EMPTY ones. -/
theorem witness_FetchAndEraseEntryAnswer :
    let s := inState .configure
    configuring s = true ∧
      (∀ x ∈ [((0, 4), EntryRef.watch 4), ((1, 11), .signal 11), ((2, 0), .vote 0), ((3, 17), .fault 16),
          ((4, 0), .settings)],
        entryRefOf x.1.1 x.1.2 = some x.2 ∧ (entryImage s.tables x.2).isSome = true) ∧
      (∀ x ∈ [((0, 31), EntryRef.watch 31), ((1, 63), .signal 63), ((2, 3), .vote 3), ((3, 64), .fault 63)],
        entryRefOf x.1.1 x.1.2 = some x.2 ∧ entryImage s.tables x.2 = none) := by decide +kernel

/-! ### Witnesses: headlines -/

theorem witness_ImagesDecodeToTheirEntries :
    wheelEntry.legal = true ∧ rearWheel.legal = true ∧ speedVote.legal = true ∧ rearFault.legal = true ∧
      Settings.default.clamped = Settings.default ∧ (recordFor 16 .confirmed).legal = true := by decide

theorem witness_RegionsLoadBack :
    tablesLegal completeTables = true ∧ recordsLegal 65535 [recordFor 16 .confirmed, recordFor 3 .healed] = true ∧
      Mem.wf storeFill (tablesSize + 3) [] = true ∧ Mem.wf storeFill (memorySize + 3) [(585, 0)] = true := by
  decide +kernel

/-- A ride whose ABS lamp is lit by a CONFIRMED record. -/
def lit : State :=
  let lamp : LampState := ⟨.steady, some 100, none, false, .steady, none⟩
  (withRecords [recordFor 16 .confirmed] (withFault rearFault ⟨50, .failing, true⟩ riding)).setLamps
    ⟨.initial, lamp, none⟩

/-- A ride with a record, a lit lamp and a running monitor meets every invariant that a step keeps. -/
theorem witness_StepKeeps :
    (areasCanonical lit = true ∧ valuesInRange lit = true ∧ framesFit lit = true) ∧
      (operationsKept lit = true ∧ gatesKept lit = true ∧ selectorRested lit = true) ∧
      (tablesLegal lit.tables = true ∧ verdictsKept lit = true ∧ lampsKept lit = true) ∧
      (lit.ride.state.isRunning = true ∧ recordFor 16 .confirmed ∈ lit.memory.records ∧
        lit.tables.faults.at 16 = some rearFault ∧ rearFault.lamp = .abs) := by decide +kernel

/-- The same ride takes a step, on its empty queue and on a bus error. -/
theorem witness_StepKeeps_step :
    step lit = .next (tick lit) ∧
      step (lit.setPending [.busError]) = .next (takeBusError lit) := ⟨rfl, rfl⟩

end Sys2Proof.Tests
end

section
/-!
PROOFS. Extraction and scaling of the Signal Evaluator (R39, R40).
-/

namespace Sys2Proof.Proofs

open Sys2Proof.Machine

/-! ### The field as read -/

/-- Payload bit n is bit (n mod 8) of byte (n div 8) (section 0.8). -/
theorem testBit_payloadNumber (payload : List Byte) (n : Nat) :
    (payloadNumber payload).testBit n = (payload.getD (n / 8) 0).getLsbD (n % 8) := by
  induction payload generalizing n with
  | nil => simp [payloadNumber]
  | cons b bs ih =>
    have bitOfHeadOrTail : (payloadNumber (b :: bs)).testBit n =
        if n < 8 then b.getLsbD n else (payloadNumber bs).testBit (n - 8) := by
      rw [payloadNumber, Nat.add_comm, ← BitVec.testBit_toNat]
      exact Nat.testBit_two_pow_mul_add (payloadNumber bs) b.isLt n
    rcases Nat.lt_or_ge n 8 with low | high
    · simp [bitOfHeadOrTail, low, Nat.div_eq_of_lt low, Nat.mod_eq_of_lt low]
    · obtain ⟨m, rfl⟩ := Nat.exists_eq_add_of_le' high
      simp [bitOfHeadOrTail, ih]

theorem rawField_lt (start len : Nat) (payload : List Byte) :
    rawField start len payload < 2 ^ len :=
  Nat.mod_lt _ (Nat.two_pow_pos len)

/-- Bit i of the field is payload bit start + i. -/
theorem testBit_rawField (start : Nat) {len i : Nat} (payload : List Byte) (inField : i < len) :
    (rawField start len payload).testBit i =
      (payload.getD ((start + i) / 8) 0).getLsbD ((start + i) % 8) := by
  rw [rawField, Nat.testBit_mod_two_pow, Nat.testBit_div_two_pow, Nat.add_comm i,
    testBit_payloadNumber]
  simp [inField]

/-! ### The raw value -/

/-- The most significant bit of a number of `len` bits is clear exactly in the lower half. -/
theorem testBit_top_eq_false_iff {n len : Nat} (nonempty : 1 ≤ len) (fits : n < 2 ^ len) :
    n.testBit (len - 1) = false ↔ n < 2 ^ (len - 1) := by
  refine ⟨fun clear => ?_, Nat.testBit_lt_two_pow⟩
  by_contra upper
  have topSet : n.testBit (len - 1) = true :=
    Nat.testBit_of_two_pow_le_and_two_pow_add_one_gt (Nat.le_of_not_lt upper)
      (by rwa [Nat.sub_add_cancel nonempty])
  simp [clear] at topSet

theorem extract_of_unsigned {e : SignalEntry} (payload : List Byte)
    (unsigned : e.signedness = .unsigned) :
    extract e payload = rawField e.startBit e.length payload := by
  simp [extract, unsigned]

/-- A SIGNED field by its most significant bit: as read, or as read less 2^length. -/
theorem extract_of_signed {e : SignalEntry} (payload : List Byte)
    (signed : e.signedness = .signed) (nonempty : 1 ≤ e.length) :
    extract e payload =
      if (rawField e.startBit e.length payload).testBit (e.length - 1) = false then
        (rawField e.startBit e.length payload : Int)
      else (rawField e.startBit e.length payload : Int) - 2 ^ e.length := by
  simp only [extract, signed, testBit_top_eq_false_iff nonempty (rawField_lt _ _ _)]

/-- Settles O14: the number whose bits are read is `rawField`. -/
theorem fieldExtracted : Obligations.FieldExtracted := by
  intro e payload nonempty
  have signedValue := fun signed => extract_of_signed (e := e) payload signed nonempty
  refine ⟨rawField e.startBit e.length payload, rawField_lt _ _ _, ?bits, ?unsigned, ?clear, ?set⟩
  case bits => exact fun i inField => testBit_rawField e.startBit payload inField
  case unsigned => exact extract_of_unsigned payload
  case clear => exact fun signed topClear => by rw [signedValue signed, if_pos topClear]
  case set => exact fun signed topSet => by rw [signedValue signed, if_neg (by simp [topSet])]

/-! ### The engineering value -/

theorem saturate_of_gt {v : Int} (above : 32767 < v) : saturate v = 32767 := by
  simp only [saturate]; omega

theorem saturate_of_lt {v : Int} (below : v < -32768) : saturate v = -32768 := by
  simp only [saturate]; omega

theorem saturate_of_mem {v : Int} (low : -32768 ≤ v) (high : v ≤ 32767) : saturate v = v := by
  simp only [saturate]; omega

/-- Settles O15: the quotient is the integer division of the product by 2^shift. -/
theorem engineeringValueScaled : Obligations.EngineeringValueScaled := by
  intro e raw
  have divisorPos : (0 : Int) < 2 ^ e.shift := Int.pow_pos (by decide)
  refine ⟨raw * e.gain / 2 ^ e.shift, ?floor, ?next, ?above, ?below, ?within⟩
  case floor => exact Int.ediv_mul_le _ divisorPos.ne'
  case next => exact Int.lt_ediv_add_one_mul_self _ divisorPos
  case above => exact saturate_of_gt
  case below => exact saturate_of_lt
  case within => exact saturate_of_mem

end Sys2Proof.Proofs
end

section
/-!
PROOFS. Agreement of two vote members (R61).
-/

namespace Sys2Proof.Proofs

open Sys2Proof.Machine

theorem agree_eq_true_iff {r : VoteRule} {x y : Int} :
    agree r x y = true ↔ (x - y).natAbs ≤ allowance r x y := by
  simp only [agree, decide_eq_true_eq]

theorem agree_eq_false_iff {r : VoteRule} {x y : Int} :
    agree r x y = false ↔ allowance r x y < (x - y).natAbs := by
  simp only [agree, decide_eq_false_iff_not, not_le]

theorem allowance_comm (r : VoteRule) (x y : Int) : allowance r x y = allowance r y x := by
  simp only [allowance, max_comm]

theorem agree_comm (r : VoteRule) (x y : Int) : agree r x y = agree r y x := by
  rw [Bool.eq_iff_iff, agree_eq_true_iff, agree_eq_true_iff, ← Int.natAbs_neg, neg_sub, allowance_comm]

theorem tolerances_le_of_legal {r : VoteRule} (legal : r.legal = true) :
    r.absoluteTolerance ≤ 32767 ∧ r.relativeTolerance ≤ 255 := by
  simp only [VoteRule.legal, Bool.and_eq_true, decide_eq_true_eq] at legal
  obtain ⟨⟨⟨⟨absolute, relative⟩, -⟩, -⟩, -⟩ := legal
  exact ⟨absolute, relative⟩

/-- The bound that R61 gives: the greatest absolute tolerance, 32767, plus the greatest relative part, 32640. -/
theorem allowance_le_of_legal {r : VoteRule} {x y : Int} (legal : r.legal = true)
    (hx : x.natAbs ≤ 32768) (hy : y.natAbs ≤ 32768) : allowance r x y ≤ 65407 := by
  obtain ⟨absolute, relative⟩ := tolerances_le_of_legal legal
  have product : r.relativeTolerance * max x.natAbs y.natAbs ≤ 255 * 32768 :=
    Nat.mul_le_mul relative (max_le hx hy)
  have relativePart : r.relativeTolerance * max x.natAbs y.natAbs / 256 ≤ 32640 :=
    Nat.div_le_div_right product
  exact Nat.add_le_add absolute relativePart

/-- The saturation limits differ by 65535, more than any allowance. -/
theorem agree_saturation_limits {r : VoteRule} (legal : r.legal = true) :
    agree r 32767 (-32768) = false :=
  agree_eq_false_iff.mpr
    (Nat.lt_of_le_of_lt (allowance_le_of_legal legal (by decide) (by decide)) (by decide))

/-- Settles O17: agreement is stated over the naturals in the model and over the integers in the obligation. -/
theorem voteAgreementAllowance : Obligations.VoteAgreementAllowance := by
  intro r x y
  refine ⟨?within, agree_comm r x y, agree_saturation_limits⟩
  case within =>
    rw [agree_eq_true_iff, Int.abs_eq_natAbs]
    exact Int.ofNat_le.symm

end Sys2Proof.Proofs
end


section
/-!
PROOFS. The fault's runtime after a counted sample (R98, R100 to R103, R106).
-/

namespace Sys2Proof.Proofs

open Sys2Proof.Machine

/-! ### The hand-offs leave every runtime -/

@[simp] theorem setNotice_faultRt (f : Fin 64) (s : State) : (setNotice f s).faultRt = s.faultRt := rfl

@[simp] theorem updateLamps_faultRt (s : State) : (updateLamps s).faultRt = s.faultRt := rfl

@[simp] theorem changeRecords_faultRt (rs : List FaultRecord) (s : State) :
    (changeRecords rs s).faultRt = s.faultRt := rfl

@[simp] theorem createRecord_faultRt (f : Fin 64) (d : FaultDef) (s : State) :
    (createRecord f d s).faultRt = s.faultRt := by
  unfold createRecord
  split
  · simp
  · split <;> simp

@[simp] theorem memoryEnterFailing_faultRt (f : Fin 64) (d : FaultDef) (s : State) :
    (memoryEnterFailing f d s).faultRt = s.faultRt := by
  unfold memoryEnterFailing
  split <;> simp

@[simp] theorem enterFailing_faultRt (f : Fin 64) (d : FaultDef) (s : State) :
    (enterFailing f d s).faultRt = s.faultRt := by
  simp [enterFailing]

@[simp] theorem returnToPassing_faultRt (f : Fin 64) (s : State) :
    (returnToPassing f s).faultRt = s.faultRt := by
  simp [returnToPassing]

@[simp] theorem setFaultRt_faultRt (f : Fin 64) (x : FaultRuntime) (s : State) :
    (setFaultRt f x s).faultRt = s.faultRt.put f x := rfl

/-! ### The runtime after a counted sample -/

/-- A fault's runtime after a counted sample: the counter and the verdict move, and an entry into FAILING sets the
failed-this-ride flag. -/
def nextRuntime (d : FaultDef) (x : Finding) (rt : FaultRuntime) : FaultRuntime :=
  let c := stepCounter d x rt.counter
  let v := nextVerdict d c rt.verdict
  ⟨c, v, rt.failed || (v == .failing && rt.verdict != .failing)⟩

/-- Whichever hand-off follows, the sample has put its fault's next runtime and no other. -/
theorem countSample_faultRt (f : Fin 64) (d : FaultDef) (x : Finding) (s : State) :
    (countSample f d x s).faultRt = s.faultRt.put f (nextRuntime d x (s.faultRt.at f)) := by
  unfold countSample
  extract_lets rt c v
  have runtime : nextRuntime d x (s.faultRt.at f) =
      ⟨c, v, rt.failed || (v == .failing && rt.verdict != .failing)⟩ := rfl
  rw [runtime]
  by_cases entry : v = .failing ∧ rt.verdict ≠ .failing
  · have flagRises : (v == .failing && rt.verdict != .failing) = true := by simpa using entry
    rw [if_pos entry, flagRises]
    simp
  · have flagStays : (v == .failing && rt.verdict != .failing) = false := by simpa using entry
    rw [if_neg entry, flagStays, Bool.or_false]
    split <;> simp

/-- A sample that no rule of R98 discards is counted. -/
theorem takeSample_eq_countSample {s : State} {src : Source} {f : Fin 64} {d : FaultDef}
    (running : s.ride.state.isRunning = true) (named : faultNaming s src = some f)
    (defined : s.tables.faults.at f = some d) (unblanked : blanks d.mask s.ride.classes = false)
    (x : Finding) : takeSample src x s = countSample f d x s := by
  simp [takeSample, running, named, defined, unblanked]

/-- Settles O20: `nextRuntime` steps the counter by `failStep` or `passStep`, and is put at the sample's fault alone. -/
theorem sampleMovesCounter : Obligations.SampleMovesCounter := by
  intro s src f d running named defined unblanked
  have runtimes (x : Finding) :
      (takeSample src x s).faultRt = s.faultRt.put f (nextRuntime d x (s.faultRt.at f)) := by
    rw [takeSample_eq_countSample running named defined unblanked, countSample_faultRt]
  refine ⟨?fail, ?pass, ?others⟩
  case fail => rw [runtimes, Table.at_put_self]; rfl
  case pass => rw [runtimes, Table.at_put_self]; rfl
  case others =>
    intro x g other
    rw [runtimes, Table.at_put_ne _ _ other.symm]

end Sys2Proof.Proofs
end

section
/-!
PROOFS. The answer to STATUS (R168 to R170, R174).
-/

namespace Sys2Proof.Proofs

open Sys2Proof.Machine

/-! ### The selector's frame -/

theorem AttemptOnly.eq_with_attempt {t u : Transmitter} (h : AttemptOnly t u) :
    u = { t with attempt := u.attempt } := by
  simp only [← h.response, ← h.notices, ← h.slots, ← h.queue, ← h.beaconDue, ← h.beaconTimer,
    ← h.beaconPeriod, ← h.noticeLevel, ← h.enables, ← h.errorCount, ← h.offline]

/-- The selection replaces the attempt alone. -/
theorem runSelector_eq_with_attempt (s : State) :
    runSelector s = { s with tx := { s.tx with attempt := (runSelector s).tx.attempt } } := by
  obtain ⟨u, attemptOnly, selected⟩ := runSelector_eq s
  rw [selected]
  exact congrArg s.setTx (AttemptOnly.eq_with_attempt attemptOnly)

/-! ### Requests taken and decoded -/

/-- Requests are open out of reset, where the frame is taken in a ride state that answers STATUS (R168, R170). -/
theorem requestsOpen_iff (s : State) : requestsOpen s = true ↔ s.inReset = false ∧ takesRequest s = true ∧
    (s.ride.state.isRunning = true ∨ s.ride.state = .configure) := by
  simp [requestsOpen, and_assoc]

/-- A code that names a permitted request with legal arguments is carried out (R169 step 5). No request is
permitted in CLOSING, so the first step of R169 does not decide it. -/
theorem decodeCode_carriesOut {c : Byte} {args : List Byte} {s : State} {name : RequestName} {r : Request}
    (named : RequestName.ofCode c = some name) (permitted : name.permitted s.ride.state = true)
    (legal : requestOf name args = some r) : decodeCode c args s = carryOut r s := by
  have notClosing : s.ride.state ≠ .closing := by
    intro closing
    rw [closing] at permitted
    cases name <;> cases permitted
  simp only [decodeCode, notClosing, named, permitted, legal, if_true, if_false]

/-- A frame that finds the inbox occupied is discarded (R168). -/
theorem requestArrives_inboxFull {payload : List Byte} {s : State} (fits : fitsFrame payload = true)
    (full : s.mgmt.inbox ≠ .empty) : requestArrives payload s = .next s := by
  have untaken : ¬takesRequest s = true := by simp [takesRequest, full]
  simp only [requestArrives, fits, if_true, eventWhen_idle untaken]

/-! ### STATUS -/

theorem exec_status (args : List Byte) (s : State) :
    exec (.status args) s = requestArrives (0x10 :: args) s := rfl

/-- STATUS carries no argument, so every argument list is legal. -/
theorem decodeRequest_status {args : List Byte} {s : State}
    (answered : s.ride.state.isRunning = true ∨ s.ride.state = .configure) :
    decodeRequest (0x10 :: args) s = doStatus s := by
  have permitted : RequestName.permitted .status s.ride.state = true := by
    simpa [RequestName.permitted] using answered
  exact decodeCode_carriesOut (args := args) (name := .status) (r := .status) rfl permitted rfl

/-- Settles O39: the response is placed by `doStatus`, and the selector that follows replaces the attempt alone. -/
theorem statusAnswers : Obligations.StatusAnswers := by
  intro s args short
  have fits : fitsFrame (0x10 :: args) = true := by simpa [fitsFrame] using Nat.lt_succ_of_le short
  rw [exec_status]
  refine ⟨fun isOpen => ?answered, requestArrives_inboxFull fits⟩
  case answered =>
    obtain ⟨outOfReset, taken, answering⟩ := (requestsOpen_iff s).mp isOpen
    rw [requestArrives_taken fits outOfReset taken, decodeRequest_status answering]
    have selected := runSelector_eq_with_attempt (doStatus s)
    have response : (runSelector (doStatus s)).tx.response = (doStatus s).tx.response := by rw [selected]
    refine ⟨_, rfl, response, ?frame⟩
    case frame =>
      rw [response]
      exact selected

end Sys2Proof.Proofs
end

section
/-!
PROOFS. What one step can do, said once: the cases that every invariant of the part goes through.
-/

namespace Sys2Proof.Proofs

open Sys2Proof.Machine

/-! ### Requests as they are carried out -/

/-- The arguments of a request lie in their ranges, and the ride state permits the request (R170, R171, R172). -/
def Request.fits (st : RideState) : Request → Prop
  | .status | .readFault _ | .readSignal _ | .peekMonitor _ | .fetchRecord _ | .readBuffer _ | .clearRecords _ =>
    st.isRunning = true ∨ st = .configure
  | .writeBuffer offset data => (st.isRunning = true ∨ st = .configure) ∧ offset + data.length ≤ 32
  | .setNoticeMask level _ => (st.isRunning = true ∨ st = .configure) ∧ level ≤ 4
  | .enterConfigure => st = .keyOn
  | .leaveConfigure _ | .storeEntry _ | .fetchEntry _ | .eraseEntry _ => st = .configure

/-- A request that R169 carries out has its arguments in their ranges. -/
theorem requestOf_fits {name : RequestName} {args : List Byte} {st : RideState} {r : Request}
    (permitted : name.permitted st = true) (legal : requestOf name args = some r) : Request.fits st r := by
  cases name
  case status =>
    cases legal
    simpa [Request.fits, RequestName.permitted] using permitted
  case enterConfigure =>
    cases legal
    simpa [Request.fits, RequestName.permitted] using permitted
  case writeBuffer =>
    rcases args with _ | ⟨o, rest⟩
    · cases legal
    · simp only [requestOf, writeBufferOf, Option.ite_none_right_eq_some,
        Option.some.injEq] at legal
      obtain ⟨⟨-, -, inside⟩, rfl⟩ := legal
      exact ⟨by simpa [RequestName.permitted] using permitted, inside⟩
  case setNoticeMask =>
    rcases args with _ | ⟨a, _ | ⟨b, rest⟩⟩
    · cases legal
    · cases legal
    · simp only [requestOf, twoArguments, Option.ite_none_right_eq_some,
        Option.some.injEq] at legal
      obtain ⟨level, rfl⟩ := legal
      exact ⟨by simpa [RequestName.permitted] using permitted, level⟩
  case readBuffer =>
    rcases args with _ | ⟨a, rest⟩
    · cases legal
    · simp only [requestOf, oneArgument, Option.ite_none_right_eq_some,
        Option.some.injEq] at legal
      obtain ⟨-, rfl⟩ := legal
      simpa [Request.fits, RequestName.permitted] using permitted
  case storeEntry | fetchEntry | eraseEntry =>
    rcases args with _ | ⟨a, _ | ⟨b, rest⟩⟩
    · cases legal
    · cases legal
    · obtain ⟨entry, -, rfl⟩ := Option.map_eq_some_iff.mp legal
      simpa [Request.fits, RequestName.permitted] using permitted
  case readFault | readSignal | peekMonitor =>
    rcases args with _ | ⟨a, rest⟩
    · cases legal
    · obtain ⟨x, -, rfl⟩ := Option.map_eq_some_iff.mp legal
      simpa [Request.fits, RequestName.permitted] using permitted
  case fetchRecord | clearRecords | leaveConfigure =>
    rcases args with _ | ⟨a, rest⟩ <;> cases legal
    simpa [Request.fits, RequestName.permitted] using permitted

/-- A request frame is answered without data and without effect, or its request is carried out (R169). -/
theorem decodeRequest_cases (payload : List Byte) (s : State) :
    (∃ c r u, decodeRequest payload s = respond c r [] (s.setFreeUses u)) ∨
      ∃ r, Request.fits s.ride.state r ∧ decodeRequest payload s = carryOut r s := by
  rcases payload with _ | ⟨c, args⟩
  · exact .inl ⟨_, _, _, rfl⟩
  · have refusal (r : Result) : respond c r [] s = respond c r [] (s.setFreeUses s.freeUses) := rfl
    simp only [decodeRequest, decodeCode]
    split
    · exact .inl ⟨_, _, _, refusal _⟩
    · split
      · exact .inl ⟨_, _, _, refusal _⟩
      · split
        · rename_i permitted
          split
          · exact .inl ⟨_, _, _, refusal _⟩
          · rename_i legal
            exact .inr ⟨_, requestOf_fits permitted legal, rfl⟩
        · exact .inl ⟨_, _, _, refusal _⟩

/-! ### The effects of a step -/

/-- All that a step can do to the state whose queue it has taken its command from; a tick only where one may pass. -/
inductive Effect (ticking : Prop) : State → State → Prop
  | idle (s : State) : Effect ticking s s
  | tick {s : State} {passes : ticking} (waiting : List Instr) (awake : s.inReset = false) :
      Effect ticking s ((tickTimers s).setPending waiting)
  | powerOnReset (s : State) : Effect ticking s ((powerOnValues s).setInReset true)
  | leaveReset (id0 id1 : Bool) (s : State) : Effect ticking s (Machine.leaveReset id0 id1 s)
  | frame {s : State} (id : CanId) {payload : List Byte} (taken : portTakes s = true)
      (short : payload.length ≤ 8) : Effect ticking s (takeFrame id payload s)
  | busError {s : State} (taken : portTakes s = true) : Effect ticking s (takeBusError s)
  | silence {s : State} (due : silenceDue s = true) : Effect ticking s (silenceExpires s)
  | monitor {s : State} {w : Fin 32} {e : WatchEntry} (timed : timedEntry s.tables w = some e)
      (running : (s.monitors.at w).running = true) : Effect ticking s (runSelector (monitorExpires w e s))
  | period {s : State} {w : Fin 32} {e : WatchEntry} (timed : timedEntry s.tables w = some e)
      (running : (s.monitors.at w).running = true) : Effect ticking s (runSelector (periodExpires w e s))
  | vote {s : State} {k : Fin 4} {r : VoteRule} (rule : s.tables.votes.at k = some r)
      (due : s.voteTimers.at k = some 0) : Effect ticking s (runSelector (voteExpires k r s))
  | pins (pins : Pins) (s : State) : Effect ticking s (s.setPins pins)
  | ignChange (level : Level) (pins : Pins) (s : State) :
      Effect ticking s (runSelector (ignChanged level ((s.setPins pins).setRide
        { s.ride with ign := level, ignCount := 0 })))
  | bandChange (new : Band) (pins : Pins) (s : State) : Effect ticking s (bandChanged new (s.setPins pins))
  | load {s : State} (mayComplete : opMayComplete s .load = true) : Effect ticking s (loadCompletes s)
  | memoryWrite {s : State} (mayComplete : opMayComplete s .memoryWrite = true) :
      Effect ticking s (memoryWriteCompletes s)
  | tablesWrite {s : State} (mayComplete : opMayComplete s .tablesWrite = true) :
      Effect ticking s (endOfWork (finishTablesWrite s))
  | reload {s : State} (mayComplete : opMayComplete s .reload = true) :
      Effect ticking s (endOfWork (loadTables (endOp s)))
  | tail {s : State} {cls : TailClass} (due : tailDue s cls = true) : Effect ticking s (expireTail cls s)
  | ignition {s : State} (due : ignitionDue s = true) : Effect ticking s (expireIgnition s)
  | proveOut {s : State} (due : proveOutDue s = true) : Effect ticking s (expireProveOut s)
  | stretch {s : State} {lamp : Lamp} (due : stretchDue s lamp = true) : Effect ticking s (expireStretch lamp s)
  | flash {s : State} {lamp : Lamp} (due : flashDue s lamp = true) : Effect ticking s (expireFlash lamp s)
  | success {s : State} {a : Attempt} (attempt : s.tx.attempt = some a) : Effect ticking s (attemptSucceeds a s)
  | failure {s : State} {a : Attempt} (attempt : s.tx.attempt = some a) : Effect ticking s (attemptFails s)
  | outbid {s : State} {a : Attempt} (attempt : s.tx.attempt = some a) : Effect ticking s (attemptOutbid s)
  | offlineEnd {s : State} (due : s.tx.offline = some 0) : Effect ticking s (portReturns s)
  | beacon {s : State} (due : s.tx.beaconTimer = some 0) : Effect ticking s (beaconExpires s)
  | answer {s : State} (c : Byte) (r : Result) (u : Nat) (taken : takesRequest s = true) :
      Effect ticking s (runSelector (respond c r [] (s.setFreeUses u)))
  | request {s : State} {r : Request} (taken : takesRequest s = true) (fits : Request.fits s.ride.state r) :
      Effect ticking s (runSelector (carryOut r s))

/-- An event changes nothing or has its effect (log 3). -/
theorem Effect.ofEvent {ticking p : Prop} [Decidable p] {f : State → State} {s t : State}
    (answered : eventWhen p f s = .next t) (effect : p → Effect ticking s (f s)) : Effect ticking s t := by
  simp only [eventWhen, Host.Outcome.next.injEq] at answered
  split at answered
  case isTrue happens => exact answered ▸ effect happens.2
  case isFalse => exact answered ▸ .idle s

/-- A request frame is discarded, answered, or its request carried out. -/
theorem Effect.ofRequest {ticking : Prop} {payload : List Byte} {s t : State}
    (answered : requestArrives payload s = .next t) : Effect ticking s t := by
  unfold requestArrives at answered
  split at answered
  case isFalse => cases answered
  case isTrue =>
    refine .ofEvent answered fun taken => ?_
    rcases decodeRequest_cases payload s with ⟨c, r, u, decoded⟩ | ⟨r, fits, decoded⟩
    · rw [takeRequest, decoded]; exact .answer c r u taken
    · rw [takeRequest, decoded]; exact .request taken fits

theorem monitorDue_running {s : State} {w : Fin 32} (due : monitorDue s w = true) :
    (s.monitors.at w).running = true := by
  simp only [monitorDue, Bool.and_eq_true] at due
  exact due.1.1.2

theorem voteDue_timer {s : State} {k : Fin 4} (due : voteDue s k = true) : s.voteTimers.at k = some 0 := by
  simp only [voteDue, Bool.and_eq_true, beq_iff_eq] at due
  exact due.1.2

/-- Each command's meaning is one of the effects, and never a tick. -/
theorem exec_effect {ticking : Prop} {c : Instr} {s t : State} (answered : exec c s = .next t) : Effect ticking s t := by
  cases c
  case errorFreeFrame id payload =>
    simp only [exec, execErrorFreeFrame] at answered
    split at answered
    case isFalse => cases answered
    case isTrue fits => exact .ofEvent answered fun taken => .frame id taken (by simpa [fitsFrame] using fits)
  case busError => exact .ofEvent answered .busError
  case silenceTimerExpiry => exact .ofEvent answered .silence
  case monitorExpiry w =>
    refine .ofEvent answered fun due => ?_
    unfold expireMonitor
    split
    · exact .idle s
    · split
      · exact .idle s
      · exact .monitor ‹_› (monitorDue_running due)
  case periodExpiry w =>
    refine .ofEvent answered fun due => ?_
    unfold expirePeriod
    split
    · exact .idle s
    · split
      · exact .period ‹_› (monitorDue_running due)
      · exact .idle s
  case voteExpiry k =>
    refine .ofEvent answered fun due => ?_
    unfold expireVote
    split
    · exact .idle s
    · exact .vote ‹_› (voteDue_timer due)
  case ignFilterChange level =>
    refine .ofEvent answered fun _ => ?_
    unfold takeRawLevel
    dsimp only
    split
    · exact .ignChange level _ s
    · exact .pins _ s
  case supplyBandChange sample =>
    refine .ofEvent answered fun _ => ?_
    unfold takeSupplySample
    dsimp only
    split
    · exact .pins _ s
    · exact .bandChange _ _ s
  case powerOnReset => cases answered; exact .powerOnReset s
  case leavePowerOnReset id0 id1 =>
    simp only [exec, execLeavePowerOnReset, Host.Outcome.next.injEq] at answered
    split at answered
    · exact answered ▸ .leaveReset id0 id1 s
    · exact answered ▸ .idle s
  case loadCompletion => exact .ofEvent answered .load
  case memoryWriteCompletion => exact .ofEvent answered .memoryWrite
  case tablesWriteCompletion => exact .ofEvent (f := fun s => endOfWork (finishTablesWrite s)) answered .tablesWrite
  case reloadCompletion => exact .ofEvent (f := fun s => endOfWork (loadTables (endOp s))) answered .reload
  case tailTimerExpiry cls => exact .ofEvent answered .tail
  case ignitionTimerExpiry => exact .ofEvent answered .ignition
  case proveOutTimerExpiry => exact .ofEvent answered .proveOut
  case stretchTimerExpiry lamp => exact .ofEvent answered .stretch
  case flashPhaseExpiry lamp => exact .ofEvent answered .flash
  case attemptSuccess =>
    refine .ofEvent answered fun _ => ?_
    unfold endOfAttempt
    split
    · exact .idle s
    · exact .success ‹_›
  case attemptFailure =>
    refine .ofEvent answered fun _ => ?_
    unfold endOfAttempt
    split
    · exact .idle s
    · exact .failure ‹_›
  case lostArbitration =>
    refine .ofEvent answered fun _ => ?_
    unfold endOfAttempt
    split
    · exact .idle s
    · exact .outbid ‹_›
  case offlineTimerExpiry => exact .ofEvent answered .offlineEnd
  case beaconTimerExpiry => exact .ofEvent answered .beacon
  case requestDiscarded | unknown | status | readFault | readSignal | peekMonitor | fetchRecord | readBuffer
    | writeBuffer | clearRecords | setNoticeMask | enterConfigure | leaveConfigureCommit
    | leaveConfigureAbandon | storeEntry | fetchEntry | eraseEntry => exact .ofRequest answered

/-- All that a step can do (logs 2, 3). -/
theorem step_effect {s t : State} (stepped : step s = .next t) : ∃ rest, Effect True (s.setPending rest) t := by
  unfold step at stepped
  split at stepped
  case h_1 =>
    simp only [Host.Outcome.next.injEq, tick] at stepped
    split at stepped
    · exact ⟨s.pending, stepped ▸ .idle s⟩
    · have awake := Bool.eq_false_of_not_eq_true ‹_›
      exact ⟨s.pending, stepped ▸ .tick (s := s) (passes := trivial) _ awake⟩
  case h_2 c rest _ => exact ⟨rest, exec_effect stepped⟩

end Sys2Proof.Proofs
end

section
/-!
PROOFS. The transmit selector leaves nothing to send on a free transmitter (R149).
-/

namespace Sys2Proof.Proofs

open Sys2Proof.Machine

/-! ### When the selector finds nothing -/

theorem bestNotice_eq_none_iff (s : State) (fs : List (Fin 64)) :
    bestNotice s fs = none ↔ ∀ f ∈ fs, noticeEligible s f = false := by
  induction fs with
  | nil => simp [bestNotice]
  | cons f fs ih =>
    simp only [bestNotice, List.forall_mem_cons]
    cases best : bestNotice s fs with
    | none => have none := ih.mp best; simp; exact fun _ => none
    | some g =>
      have notNone : ¬∀ f ∈ fs, noticeEligible s f = false := fun h => by simp [ih.mpr h] at best
      simp only [notNone, and_false, iff_false]
      split <;> simp

theorem bestSlot_eq_none_iff (s : State) (ws : List (Fin 32)) :
    bestSlot s ws = none ↔ ∀ w ∈ ws, s.tx.slots.at w = none := by
  induction ws with
  | nil => simp [bestSlot]
  | cons w ws ih =>
    simp only [bestSlot, List.forall_mem_cons, ← ih]
    split
    · rename_i empty; simp [empty]
    · rename_i held _; simp [held]
    · rename_i held _; rw [held]; split <;> simp

/-- No forwarded frame waits where R149 looks for one. -/
theorem selectForwarded_eq_none_iff (s : State) : selectForwarded s = none ↔
    if s.passThrough then s.tx.queue = [] else ∀ w, s.tx.slots.at w = none := by
  unfold selectForwarded
  split <;> simp [bestSlot_eq_none_iff]

/-- The selector finds nothing where no item of R149 waits. -/
theorem select_eq_none_iff (s : State) : select s = none ↔
    s.tx.response = none ∧ (∀ f, noticeEligible s f = false) ∧ selectForwarded s = none ∧
      s.tx.beaconDue = false := by
  have notices := bestNotice_eq_none_iff s (List.finRange 64)
  simp only [List.mem_finRange, forall_const] at notices
  rw [← notices]
  unfold select
  cases s.tx.response with
  | some r => simp
  | none =>
    cases bestNotice s (List.finRange 64) with
    | some f => simp
    | none => cases selectForwarded s <;> simp

/-- What is rested: a transmitter that is not free, or one with nothing to send. -/
theorem selectorRested_iff (s : State) :
    selectorRested s = true ↔ (transmitterFree s = true → select s = none) := by
  cases free : transmitterFree s <;> simp [selectorRested, free]

/-- A selection at the end of an event leaves nothing unsent. -/
theorem runSelector_rested (s : State) : selectorRested (runSelector s) = true := by
  rw [selectorRested_iff]
  intro free
  obtain ⟨nothing, same⟩ := runSelector_rests s free
  rw [same, nothing]

/-! ### Events that run no selector -/

/-- What the selection reads is the same in both states. -/
structure SameItems (s t : State) : Prop where
  response : t.tx.response = s.tx.response
  notices : t.tx.notices = s.tx.notices
  slots : t.tx.slots = s.tx.slots
  queue : t.tx.queue = s.tx.queue
  beaconDue : t.tx.beaconDue = s.tx.beaconDue
  noticeLevel : t.tx.noticeLevel = s.tx.noticeLevel
  enables : t.tx.enables = s.tx.enables
  attempt : t.tx.attempt = s.tx.attempt
  offline : t.tx.offline.isNone = s.tx.offline.isNone
  state : t.ride.state = s.ride.state
  tables : t.tables = s.tables
  unconfigured : t.mgmt.unconfigured = s.mgmt.unconfigured

/-- A transmitter stays rested while what the selection reads stays. -/
theorem SameItems.rested {s t : State} (same : SameItems s t) (rested : selectorRested s = true) :
    selectorRested t = true := by
  rw [selectorRested_iff] at rested ⊢
  have free : transmitterFree t = transmitterFree s := by
    simp only [transmitterFree, same.offline, same.attempt]
  have eligible (f : Fin 64) : noticeEligible t f = noticeEligible s f := by
    unfold noticeEligible groupEnabled levelOf
    rw [same.notices, same.state, same.tables, same.enables, same.noticeLevel]
  have forwarded : selectForwarded t = none ↔ selectForwarded s = none := by
    have passThrough : t.passThrough = s.passThrough := by
      simp only [State.passThrough, same.state, same.unconfigured]
    rw [selectForwarded_eq_none_iff, selectForwarded_eq_none_iff, passThrough, same.queue, same.slots]
  rw [free, select_eq_none_iff, same.response, forwarded, same.beaconDue]
  simp only [eligible]
  rw [← select_eq_none_iff]
  exact rested

/-- A transmitter whose items are all given up has nothing to send. -/
theorem rested_of_no_items {s : State} (response : s.tx.response = none)
    (notices : ∀ f, s.tx.notices.at f = false) (slots : ∀ w, s.tx.slots.at w = none)
    (queue : s.tx.queue = []) (beacon : s.tx.beaconDue = false) : selectorRested s = true := by
  rw [selectorRested_iff, select_eq_none_iff, selectForwarded_eq_none_iff]
  intro _
  refine ⟨response, fun f => by simp [noticeEligible, notices], ?_, beacon⟩
  split
  · exact queue
  · exact slots

theorem rested_of_initial_tx {s : State} (initial : s.tx = .initial) : selectorRested s = true :=
  rested_of_no_items (by rw [initial]; rfl) (by rw [initial]; exact Table.at_fill _)
    (by rw [initial]; exact Table.at_fill _) (by rw [initial]; rfl) (by rw [initial]; rfl)

theorem rested_of_giveUp {s : State} {t : Transmitter} (given : s.tx = t.giveUp) :
    selectorRested s = true := by
  rw [Transmitter.giveUp_eq] at given
  exact rested_of_no_items (by rw [given]) (by rw [given]; exact Table.at_fill _)
    (by rw [given]; exact Table.at_fill _) (by rw [given]) (by rw [given])

/-- Step 5 of CLOSING gives up every item, whatever the filtered IGN level. -/
theorem finishClosing_tx (s : State) : (finishClosing s).tx = s.tx.giveUp := by
  unfold finishClosing
  split <;> rfl

/-- A tick counts timers, none of which the selection reads but for the OFFLINE timer's presence. -/
theorem tickTimers_sameItems (s : State) (waiting : List Instr) :
    SameItems s ((tickTimers s).setPending waiting) := by
  have offline : (countDown s.tx.offline).isNone = s.tx.offline.isNone := by cases s.tx.offline <;> rfl
  unfold tickTimers tickHeldTimers
  split <;> constructor <;> simp [tickFreeTimers, offline]

/-- The LOW_SUPPLY class moves nothing but the classes. -/
theorem classFollowsBand_eq (old new : Band) (s : State) : ∃ c,
    classFollowsBand old new s = s.setRide { s.ride with classes := c } := by
  unfold classFollowsBand beginClass endClass
  split_ifs <;> exact ⟨_, rfl⟩

/-- A change of band moves the band, the classes and the lamps alone. -/
theorem bandChanged_eq (new : Band) (s : State) : ∃ c l,
    bandChanged new s = (s.setRide { s.ride with band := new, classes := c }).setLamps l := by
  obtain ⟨c, followed⟩ := classFollowsBand_eq s.ride.band new (s.setRide { s.ride with band := new })
  unfold bandChanged
  dsimp only
  rw [followed]
  split
  · exact ⟨c, _, rfl⟩
  · exact ⟨c, s.lamps, rfl⟩

/-- A failed attempt ends with the selection, or with the port OFFLINE. -/
theorem attemptFails_rested (s : State) : selectorRested (attemptFails s) = true := by
  unfold attemptFails
  dsimp only
  split
  · rw [selectorRested_iff]
    intro free
    have offline := (takeSample_frame (.portDown .cluster) .fail ((endAttempt (min (s.tx.errorCount + 8) 256)
      s).setTx { (endAttempt (min (s.tx.errorCount + 8) 256) s).tx with offline := some 100 })).offline
    simp [transmitterFree, offline] at free
  · exact runSelector_rested _

/-- Settles O57: an event that can leave an item ends with the selection; the others change nothing that the
selection reads, or give every item up. -/
theorem stepLeavesNothingUnsent : Obligations.StepLeavesNothingUnsent := by
  intro s t rested stepped
  obtain ⟨rest, effect⟩ := step_effect stepped
  replace rested : selectorRested (s.setPending rest) = true := rested
  generalize s.setPending rest = s at rested effect
  cases effect with
  | idle => exact rested
  | tick waiting _ => exact (tickTimers_sameItems s waiting).rested rested
  | powerOnReset => exact rested_of_initial_tx rfl
  | leaveReset id0 id1 => exact rested_of_initial_tx rfl
  | pins pins => exact SameItems.rested (by constructor <;> rfl) rested
  | bandChange new pins =>
    obtain ⟨c, l, changed⟩ := bandChanged_eq new (s.setPins pins)
    rw [changed]
    exact SameItems.rested (by constructor <;> rfl) rested
  | memoryWrite _ => exact rested_of_giveUp (finishClosing_tx _)
  | tail _ | ignition _ | proveOut _ | stretch _ | flash _ =>
    exact SameItems.rested (by constructor <;> rfl) rested
  | failure _ => exact attemptFails_rested s
  | frame | busError | silence | monitor | period | vote | ignChange | load | tablesWrite | reload | success
    | outbid | offlineEnd | beacon | answer | request => exact runSelector_rested _

end Sys2Proof.Proofs
end

section
/-!
PROOFS. Entry into ASLEEP, SETTLING and CONFIGURE, and the ends of the writes, field by field (R71, R76, R91, R185).
-/

namespace Sys2Proof.Proofs

open Sys2Proof.Machine

theorem enterSettling_eq (s : State) : enterSettling s =
    { s with
      chassis := .initial
      monitors := Table.fill 32 .initial
      signalRt := Table.fill 64 .initial
      voteTimers := Table.fill 4 none
      faultRt := Table.fill 64 .initial
      lamps := .initial
      tx := s.tx.giveUp
      mgmt := { s.mgmt with inbox := .empty, buffer := [] }
      memory := { s.memory with full := false, dirty := false }
      ride := { s.ride with state := .settling, hold := true, classes := .inactive }
      store := { s.store with op := some ⟨.load, 0⟩, storeLost := false } } := by
  simp only [enterSettling, beginOp, State.setChassis, State.setMonitors, State.setSignalRt, State.setVoteTimers,
    State.setFaultRt, State.setLamps, State.setTx, State.setMgmt, State.setMemory, State.setRide, State.setStore]

theorem enterAsleep_eq (s : State) : enterAsleep s =
    { s with
      tx := s.tx.giveUp
      mgmt := { s.mgmt with inbox := .empty }
      memory := .initial
      ride := { s.ride with state := .asleep, hold := false } } := by
  simp only [enterAsleep, State.setTx, State.setMgmt, State.setMemory, State.setRide]

theorem finishMemoryWrite_eq (s : State) : finishMemoryWrite s =
    { s with
      store := { s.store with memory := regionEndWrite memorySize s.store.memory, op := none }
      memory := { s.memory with dirty := false } } := by
  simp only [finishMemoryWrite, endOp, State.setStore, State.setMemory]

theorem finishTablesWrite_eq (s : State) : finishTablesWrite s =
    { s with
      store := { s.store with tables := regionEndWrite tablesSize s.store.tables, op := none }
      mgmt := { s.mgmt with unconfigured := false } } := by
  simp only [finishTablesWrite, endOp, State.setStore, State.setMgmt]

theorem beginMemoryWrite_eq (s : State) : beginMemoryWrite s =
    { s with store := { s.store with
        op := some ⟨.memoryWrite, 0⟩
        memory := regionBeginWrite memorySize (memoryContent s.ride.rideNumber s.memory.records)
          s.store.memory } } := by
  simp only [beginMemoryWrite, beginOp, State.setStore]

theorem beginTablesWrite_eq (s : State) : beginTablesWrite s =
    { s with store := { s.store with
        op := some ⟨.tablesWrite, 0⟩
        tables := regionBeginWrite tablesSize s.tables.content s.store.tables } } := by
  simp only [beginTablesWrite, beginOp, State.setStore]

theorem enterConfigure_eq (s : State) : enterConfigure s =
    { s with
      chassis := { s.chassis with silence := none }
      monitors := (moveGates s.ride.state .configure s).monitors
      voteTimers := (moveGates s.ride.state .configure s).voteTimers
      faultRt := Table.fill 64 .initial
      ride := { s.ride with state := .configure, runTime := 0, speedReached := false }
      tx := s.tx.emptyForwarding
      lamps := (enterConfigure s).lamps } := by
  simp only [enterConfigure, lampsAtConfigure, enterRideState, moveGates, State.setMonitors, State.setVoteTimers,
    State.setRide, State.setChassis, State.setFaultRt, State.setTx, State.setLamps]

end Sys2Proof.Proofs
end

section
/-!
PROOFS. Predicates that the small operations of the part keep, and so every event of the chassis segment, of a
monitor and of a vote rule.
-/

namespace Sys2Proof.Proofs

open Sys2Proof.Machine

/-- A predicate that the small operations of the evaluation of a frame keep, each under what its callers know. -/
structure EvaluationStable (P : State → Prop) : Prop where
  sample (src : Source) (x : Finding) {s : State} : P s → P (takeSample src x s)
  begins (cls : TailClass) {s : State} : P s → P (beginClass cls s)
  ends (cls : TailClass) {s : State} : P s → P (endClass cls s)
  signal (i : Fin 64) (x : SignalRuntime) {s : State} (range : signalInRange x = true) :
    P s → P (setSignalRt i x s)
  engine (new : RideState) {s : State} (running : s.ride.state.isRunning = true)
    (runningNew : new.isRunning = true) : P s → P (enterRideState new s)
  speed {s : State} : P s → P (s.setRide { s.ride with speedReached := true })
  absReady {s : State} : P s → P (endAbsProveOut s)

/-- A predicate that the checks of an arrival keep too. -/
structure CheckStable (P : State → Prop) : Prop extends EvaluationStable P where
  arrival {s : State} {w : Fin 32} {e : WatchEntry} (timed : timedEntry s.tables w = some e) :
    P s → P (setMonitor w ((s.monitors.at w).afterArrival e) s)
  watchRt {s : State} {w : Fin 32} (x : WatchRuntime)
    (payload : x.lastGood = (s.watchRt.at w).lastGood ∨ ∃ b, x.lastGood = some b ∧ b.length ≤ 8) :
    P s → P (setWatchRt w x s)
  histories (w : Fin 32) {s : State} : P s → P (clearHistories w s)

/-- A predicate that the disposal of a frame keeps too. -/
structure ScreenStable (P : State → Prop) : Prop extends CheckStable P where
  offer (w : Fin 32) (fr : Frame) {s : State} (short : fr.bytes.length ≤ 8) : P s → P (offerSlot w fr s)
  enqueue (fr : Frame) {s : State} (short : fr.bytes.length ≤ 8) : P s → P (enqueueFrame fr s)

/-- A predicate that the small operations which the blocks share keep too. -/
structure Stable (P : State → Prop) : Prop extends ScreenStable P where
  notice (f : Fin 64) {s : State} : P s → P (setNotice f s)
  selector {s : State} : P s → P (runSelector s)
  freeUses (n : Nat) {s : State} : P s → P (s.setFreeUses n)
  chassis {s : State} (c : ChassisPort) (port : portInRange s.chassis = true → portInRange c = true)
    (silence : c.silence = s.chassis.silence ∨ c.silence = none ∨
      c.silence = some s.tables.settings.silenceTime) : P s → P (s.setChassis c)
  reload {s : State} {w : Fin 32} {e : WatchEntry} (timed : timedEntry s.tables w = some e) :
    P s → P (reloadMonitor w e s)
  substitute (w : Fin 32) (e : WatchEntry) {s : State} : P s → P (offerSubstitute w e s)
  vote {s : State} {k : Fin 4} {r : VoteRule} (rule : s.tables.votes.at k = some r)
    (runs : (s.voteTimers.at k).isSome = true) : P s → P (setVoteTimer k (some r.period) s)

/-- Saturation brings every sum into the engineering range (R40). -/
theorem saturate_isEngineering (v : Int) : isEngineering (saturate v) = true := by
  have low : -32768 ≤ saturate v := le_max_left _ _
  have high : saturate v ≤ 32767 := max_le (by decide) (min_le_left _ _)
  simp [isEngineering, low, high]

theorem nextFrozenRun_le (rt : SignalRuntime) (v : Int) : nextFrozenRun rt v ≤ 255 := by
  unfold nextFrozenRun
  split <;> omega

/-! ### The parts of an arrival (R11) -/

/-- An arrival after its monitor and its length and checksum samples. -/
def arrivalChecked (w : Fin 32) (e : WatchEntry) (payload : List Byte) (s : State) : State :=
  takeSamples (lengthAndChecksumSamples w e payload) (monitorArrival w s)

/-- An arrival after all its checks. -/
def arrivalSequenced (w : Fin 32) (e : WatchEntry) (payload : List Byte) (s : State) : State :=
  if reachesAlive e payload then aliveCheck w e payload (arrivalChecked w e payload s)
  else arrivalChecked w e payload s

/-- The entry's runtime after a good frame. -/
def arrivalAccepted (w : Fin 32) (payload : List Byte) (s : State) : State :=
  setWatchRt w { s.watchRt.at w with freshness := .fresh, lastGood := some payload } s

/-- An arrival whose signals, if it is good, are evaluated. -/
def arrivalEvaluated (w : Fin 32) (e : WatchEntry) (payload : List Byte) (s : State) : State :=
  if arrivalGood (arrivalChecked w e payload s) w e payload then
    evaluateFrame w payload (arrivalAccepted w payload (arrivalSequenced w e payload s))
  else arrivalSequenced w e payload s

theorem screenArrival_eq (w : Fin 32) (e : WatchEntry) (payload : List Byte) (s : State) :
    screenArrival w e payload s =
      if e.policy.offers (arrivalGood (arrivalChecked w e payload s) w e payload) then
        offerSlot w ⟨e.identifier, payload⟩ (arrivalEvaluated w e payload s)
      else arrivalEvaluated w e payload s := rfl

namespace EvaluationStable

variable {P : State → Prop} (stable : EvaluationStable P)
include stable

theorem samples (xs : List (Source × Finding)) {s : State} (h : P s) : P (takeSamples xs s) :=
  foldl_keeps P _ (fun _ x h => stable.sample x.1 x.2 h) xs s h

/-! ### Signals -/

theorem evaluateAt (payload : List Byte) (i : Fin 64) {s : State} (h : P s) :
    P (Machine.evaluateAt payload s i) := by
  unfold Machine.evaluateAt
  split
  · exact h
  · refine stable.signal _ _ ?_ (stable.samples _ h)
    simp [signalInRange, wherePresent, scale, saturate_isEngineering, nextFrozenRun_le]

theorem engineUpdate (v : Int) {s : State} (h : P s) : P (Machine.engineUpdate v s) := by
  unfold Machine.engineUpdate
  dsimp only
  split
  case isTrue => exact h
  case isFalse moved =>
    have running : s.ride.state.isRunning = true := by
      by_contra stopped
      exact moved (by simp [engineState, Bool.eq_false_of_not_eq_true stopped])
    have runningNew : (engineState v s.ride.state).isRunning = true := by
      simp only [engineState, running]
      split_ifs <;> first | rfl | exact running
    have entered := stable.engine _ running runningNew h
    split
    · exact stable.begins .crank entered
    · split
      · exact stable.ends .crank entered
      · exact entered

theorem regulatingUpdate (before after : Int) {s : State} (h : P s) :
    P (Machine.regulatingUpdate before after s) := by
  unfold Machine.regulatingUpdate
  split_ifs
  · exact stable.begins _ h
  · exact stable.ends _ h
  · exact h

theorem applyRoleUpdate (u : RoleUpdate) {s : State} (h : P s) : P (Machine.applyRoleUpdate s u) := by
  unfold Machine.applyRoleUpdate
  split
  · exact h
  · exact stable.engineUpdate _ h
  · unfold speedUpdate
    split
    · exact stable.speed h
    · exact h
  · exact stable.regulatingUpdate _ _ h
  · unfold readyUpdate
    split
    · exact stable.absReady h
    · exact h

theorem evaluateFrame (w : Fin 32) (payload : List Byte) {s : State} (h : P s) :
    P (Machine.evaluateFrame w payload s) :=
  foldl_keeps P _ (fun _ u h => stable.applyRoleUpdate u h) _ _
    (foldl_keeps P _ (fun _ i h => stable.evaluateAt payload i h) _ _ h)

end EvaluationStable

namespace CheckStable

variable {P : State → Prop} (stable : CheckStable P)
include stable

theorem monitorArrival (w : Fin 32) {s : State} (h : P s) : P (Machine.monitorArrival w s) := by
  unfold Machine.monitorArrival
  split
  · exact h
  · dsimp only
    split
    · exact stable.samples _ (stable.arrival ‹_› h)
    · exact h

theorem aliveCheck (w : Fin 32) (e : WatchEntry) (payload : List Byte) {s : State} (h : P s) :
    P (Machine.aliveCheck w e payload s) := by
  unfold Machine.aliveCheck
  split
  · exact h
  · extract_lets received c u rt v
    have seen : P v := stable.watchRt _ (.inl rfl) (stable.samples _ h)
    split
    · exact stable.histories w seen
    · exact seen

theorem arrivalChecked (w : Fin 32) (e : WatchEntry) (payload : List Byte) {s : State} (h : P s) :
    P (Proofs.arrivalChecked w e payload s) :=
  stable.samples _ (stable.monitorArrival w h)

theorem arrivalSequenced (w : Fin 32) (e : WatchEntry) (payload : List Byte) {s : State} (h : P s) :
    P (Proofs.arrivalSequenced w e payload s) := by
  unfold Proofs.arrivalSequenced
  split
  · exact stable.aliveCheck w e payload (stable.arrivalChecked w e payload h)
  · exact stable.arrivalChecked w e payload h

theorem arrivalEvaluated (w : Fin 32) (e : WatchEntry) {payload : List Byte} (short : payload.length ≤ 8) {s : State}
    (h : P s) : P (Proofs.arrivalEvaluated w e payload s) := by
  have screened := stable.arrivalSequenced w e payload h
  unfold Proofs.arrivalEvaluated
  split
  · exact stable.evaluateFrame w payload (stable.watchRt _ (.inr ⟨payload, rfl, short⟩) screened)
  · exact screened

end CheckStable

namespace ScreenStable

variable {P : State → Prop} (stable : ScreenStable P)
include stable

theorem screenArrival (w : Fin 32) (e : WatchEntry) {payload : List Byte} (short : payload.length ≤ 8) {s : State}
    (h : P s) : P (Machine.screenArrival w e payload s) := by
  have evaluated := stable.arrivalEvaluated w e short h
  rw [screenArrival_eq]
  split
  · exact stable.offer w ⟨e.identifier, payload⟩ short evaluated
  · exact evaluated

theorem screenFrame (id : CanId) {payload : List Byte} (short : payload.length ≤ 8) {s : State} (h : P s) :
    P (Machine.screenFrame id payload s) := by
  unfold Machine.screenFrame
  split
  · split
    · exact h
    · exact stable.enqueue ⟨id, payload⟩ short h
  · split
    · exact h
    · split
      · exact h
      · exact stable.screenArrival _ _ short h

end ScreenStable

namespace Stable

variable {P : State → Prop} (stable : Stable P)
include stable

theorem notices (fs : List (Fin 64)) {s : State} (h : P s) : P (setNotices fs s) :=
  foldl_keeps P _ (fun _ f h => stable.notice f h) fs s h

/-- A signal stored or erased, once its entry and its runtime are replaced, ends at most a class (R88). -/
theorem replaceSignal (i : Fin 64) (x : Option SignalEntry) {s : State}
    (h : P ((s.setTables { s.tables with signals := s.tables.signals.put i x }).setSignalRt
      (s.signalRt.put i .initial))) : P (Machine.replaceSignal i x s) :=
  stable.regulatingUpdate _ _ h

/-! ### The chassis port -/

theorem classFollowsPort (c : PortCondition) {s : State} (h : P s) : P (Machine.classFollowsPort c s) := by
  cases c
  case live => exact stable.ends .portDown h
  case down => exact stable.begins .portDown h

/-- Whichever of the sample and the class goes first (R90), the change of condition itself decides. -/
theorem changePortCondition (c : PortCondition) {s : State}
    (h : P (s.setChassis { s.chassis with condition := c })) : P (Machine.changePortCondition c s) := by
  unfold Machine.changePortCondition
  dsimp only
  split
  · have used := stable.freeUses ((s.setChassis { s.chassis with condition := c }).freeUses + 1) h
    split
    · exact stable.sample _ _ (stable.classFollowsPort c used)
    · exact stable.classFollowsPort c (stable.sample _ _ used)
  · exact stable.classFollowsPort c (stable.sample _ _ h)

theorem returnToLive {s : State} (h : P s) : P (Machine.returnToLive s) := by
  unfold Machine.returnToLive
  split
  case isFalse => exact h
  case isTrue back =>
    refine stable.changePortCondition .live (stable.chassis _ (fun _ => ?_) (.inl rfl) h)
    simp only [portInRange, Bool.and_eq_true, decide_eq_true_eq, Bool.or_eq_true]
    omega

theorem reloadSilence {s : State} (h : P s) : P (Machine.reloadSilence s) := by
  unfold Machine.reloadSilence
  split
  · exact stable.chassis _ id (.inr (.inr rfl)) h
  · exact h

/-- A bus error counted, with the change to DOWN that it brings. -/
theorem takeBusError {s : State} (h : P s) : P (Machine.takeBusError s) := by
  unfold Machine.takeBusError
  dsimp only
  refine stable.selector ?_
  split
  case isTrue =>
    refine stable.changePortCondition .down ?_
    refine stable.chassis (s := s) ⟨min (s.chassis.errorCount + 8) 255, .down, s.chassis.silence⟩ (fun _ => ?_)
      (.inl rfl) h
    simp [portInRange]
  case isFalse stays =>
    refine stable.chassis _ (fun range => ?_) (.inl rfl) h
    simp only [portInRange, Bool.and_eq_true, decide_eq_true_eq, Bool.or_eq_true, beq_iff_eq] at range ⊢
    refine ⟨Nat.min_le_right _ _, ?_⟩
    cases condition : s.chassis.condition with
    | down => exact .inl rfl
    | live => exact .inr (Nat.lt_of_not_le fun high => stays ⟨condition, high⟩)

theorem silenceExpires {s : State} (h : P s) : P (Machine.silenceExpires s) := by
  have idle : P (s.setChassis { s.chassis with silence := none }) := stable.chassis _ id (.inr (.inl rfl)) h
  unfold Machine.silenceExpires
  dsimp only
  refine stable.selector ?_
  split
  · refine stable.changePortCondition .down (stable.chassis _ (fun range => ?_) (.inl rfl) idle)
    simp only [portInRange, Bool.and_eq_true, decide_eq_true_eq, Bool.or_eq_true, beq_iff_eq] at range ⊢
    exact ⟨range.1, .inl trivial⟩
  · exact idle

/-! ### Frames and expiries -/

/-- The whole event of an error-free frame (R2). -/
theorem takeFrame (id : CanId) {payload : List Byte} (short : payload.length ≤ 8) {s : State} (h : P s) :
    P (Machine.takeFrame id payload s) := by
  refine stable.selector (stable.screenFrame id short (stable.reloadSilence (stable.returnToLive
    (stable.chassis _ (fun range => ?_) (.inl rfl) h))))
  simp only [portInRange, Bool.and_eq_true, decide_eq_true_eq, Bool.or_eq_true, beq_iff_eq] at range ⊢
  obtain ⟨high, down | low⟩ := range
  · exact ⟨by omega, .inl down⟩
  · exact ⟨by omega, .inr (by omega)⟩

theorem monitorExpires {w : Fin 32} {e : WatchEntry} {s : State} (timed : timedEntry s.tables w = some e)
    (h : P s) : P (Machine.monitorExpires w e s) := by
  have stale := stable.watchRt (w := w) { (takeSample (.frame .missing w) .fail s).watchRt.at w with
    freshness := .stale } (.inl rfl) (stable.sample (.frame .missing w) .fail h)
  refine stable.reload ?_ (stable.substitute w e stale)
  unfold offerSubstitute
  rw [← (takeSample_frame (.frame .missing w) .fail s).tables] at timed
  split
  · split <;> exact timed
  · exact timed

theorem periodExpires {w : Fin 32} {e : WatchEntry} {s : State} (timed : timedEntry s.tables w = some e)
    (h : P s) : P (Machine.periodExpires w e s) := by
  unfold Machine.periodExpires
  extract_lets n u
  have sampled : P u := stable.samples _ h
  have timedU : timedEntry u.tables w = some e := by rwa [(takeSamples_frame _ s).tables]
  split
  · refine stable.reload ?_ (stable.substitute w e (stable.watchRt (w := w) _ (.inl rfl) sampled))
    unfold offerSubstitute
    split
    · split <;> exact timedU
    · exact timedU
  · exact stable.reload timedU sampled

theorem voteExpires {k : Fin 4} {r : VoteRule} {s : State} (rule : s.tables.votes.at k = some r)
    (due : s.voteTimers.at k = some 0) (h : P s) : P (Machine.voteExpires k r s) := by
  have frame := takeSamples_frame (voteSamples s k r) s
  refine stable.vote ?_ ?_ (stable.samples _ h)
  · rwa [frame.tables]
  · rw [frame.voteTimers, due]; rfl

end Stable

end Sys2Proof.Proofs
end

section
/-!
PROOFS. What an attempt carries: the hand-offs of a sample leave the attempt's frame and item.
-/

namespace Sys2Proof.Proofs

open Sys2Proof.Machine

/-- The frame and the item of the attempt in progress, its resend mark left out. -/
def carried (t : Transmitter) : Option (Frame × Item) := t.attempt.map fun a => (a.frame, a.item)

/-- An attempt that carries what an attempt before it carried is that one but for the resend mark. -/
theorem attempt_of_carried {t u : Transmitter} (same : carried u = carried t) {a : Attempt}
    (attempt : t.attempt = some a) : ∃ r, u.attempt = some ⟨a.frame, a.item, r⟩ := by
  simp only [carried, attempt, Option.map_some, Option.map_eq_some_iff, Prod.mk.injEq] at same
  obtain ⟨⟨frame, item, r⟩, attemptU, rfl, rfl⟩ := same
  exact ⟨r, attemptU⟩

@[simp] theorem carried_markResend (t : Transmitter) (i : Item) : carried (t.markResend i) = carried t := by
  unfold Transmitter.markResend
  split
  · rfl
  · split <;> simp [carried, *]

@[simp] theorem setNotice_carried (f : Fin 64) (s : State) : carried (setNotice f s).tx = carried s.tx :=
  carried_markResend s.tx (.notice f)

@[simp] theorem setNotices_carried (fs : List (Fin 64)) (s : State) :
    carried (setNotices fs s).tx = carried s.tx :=
  foldl_keeps (fun t => carried t.tx = carried s.tx) _ (fun t f same => (setNotice_carried f t).trans same)
    fs s rfl

theorem memoryEnterFailing_carried (f : Fin 64) (d : FaultDef) (s : State) :
    carried (memoryEnterFailing f d s).tx = carried s.tx := by
  unfold memoryEnterFailing createRecord
  split
  · exact setNotice_carried _ _
  · split
    · exact setNotice_carried _ _
    · split
      · rfl
      · exact (setNotice_carried _ _).trans (setNotice_carried _ _)

theorem countSample_carried (f : Fin 64) (d : FaultDef) (x : Finding) (s : State) :
    carried (countSample f d x s).tx = carried s.tx := by
  unfold countSample
  dsimp only
  split
  · exact (setNotice_carried _ _).trans (memoryEnterFailing_carried _ _ _)
  · split
    · exact setNotice_carried _ _
    · rfl

@[simp] theorem takeSample_carried (src : Source) (x : Finding) (s : State) :
    carried (takeSample src x s).tx = carried s.tx := by
  unfold takeSample
  split
  · rfl
  · split
    · rfl
    · split
      · rfl
      · split
        · rfl
        · exact countSample_carried _ _ _ _

@[simp] theorem takeSamples_carried (xs : List (Source × Finding)) (s : State) :
    carried (takeSamples xs s).tx = carried s.tx :=
  foldl_keeps (fun t => carried t.tx = carried s.tx) _ (fun t x same => (takeSample_carried x.1 x.2 t).trans same)
    xs s rfl

@[simp] theorem removeRecords_carried (p : FaultRecord → Bool) (s : State) :
    carried (removeRecords p s).tx = carried s.tx := by
  unfold removeRecords
  dsimp only
  split
  · rfl
  · exact setNotices_carried _ _

@[simp] theorem closeRecords_carried (s : State) : carried (closeRecords s).tx = carried s.tx := by
  unfold closeRecords
  dsimp only
  split
  · rfl
  · exact setNotices_carried _ _

/-- A detached attempt keeps its frame; its item is gone where the predicate picks it out. -/
theorem detach_attempt (t : Transmitter) (p : Item → Bool) :
    (t.detach p).attempt = t.attempt.map fun a => { a with item := if p a.item then .gone else a.item } := by
  unfold Transmitter.detach
  cases attempt : t.attempt with
  | none => simp [attempt]
  | some a => by_cases picked : p a.item = true <;> simp [picked, attempt]

/-- A free transmitter begins at most one attempt; another keeps its attempt. -/
theorem runSelector_attempt (s : State) : (runSelector s).tx.attempt = s.tx.attempt ∨
    s.tx.attempt = none ∧ ∃ i fr, select s = some (i, fr) ∧ (runSelector s).tx.attempt = some ⟨fr, i, false⟩ := by
  unfold runSelector
  split
  · rename_i free
    have idle : s.tx.attempt = none := by
      simp only [transmitterFree, Bool.and_eq_true, Option.isNone_iff_eq_none] at free
      exact free.2
    split
    · exact .inl rfl
    · exact .inr ⟨idle, _, _, ‹_›, rfl⟩
  · exact .inl rfl

/-- The selection leaves an attempt in progress. -/
theorem runSelector_keeps_attempt {s : State} {a : Attempt} (attempt : s.tx.attempt = some a) :
    (runSelector s).tx.attempt = some a := by
  rcases runSelector_attempt s with same | ⟨idle, -⟩
  · exact same.trans attempt
  · simp [attempt] at idle

end Sys2Proof.Proofs
end

section
/-!
PROOFS. Every frame that the part holds fits a CAN frame, and its own are of 8 bytes (section 0.8, R193).
-/

namespace Sys2Proof.Proofs

open Sys2Proof.Machine

/-! ### The invariant in propositions -/

theorem everyIndex_iff {n : Nat} {p : Fin n → Bool} : everyIndex n p = true ↔ ∀ i, p i = true := by
  simp [everyIndex, List.all_eq_true]

theorem wherePresent_iff {α : Type} {p : α → Bool} {o : Option α} :
    wherePresent p o = true ↔ ∀ x, o = some x → p x = true := by
  cases o <;> simp [wherePresent]

/-- Every frame that the transmitter holds fits. -/
structure TxFits (t : Transmitter) : Prop where
  slots : ∀ w fr, t.slots.at w = some fr → fr.bytes.length ≤ 8
  queue : ∀ fr ∈ t.queue, fr.bytes.length ≤ 8
  attempt : ∀ a, t.attempt = some a → attemptFits a = true
  response : ∀ r, t.response = some r → r.data.length ≤ 5

/-- Every last-good payload fits. -/
def PayloadsFit (x : Table WatchRuntime 32) : Prop := ∀ w b, (x.at w).lastGood = some b → b.length ≤ 8

/-- What `framesFit` says. -/
def FramesFit (s : State) : Prop := TxFits s.tx ∧ PayloadsFit s.watchRt

theorem framesFit_iff (s : State) : framesFit s = true ↔ FramesFit s := by
  simp only [framesFit, Bool.and_eq_true, everyIndex_iff, wherePresent_iff, List.all_eq_true, frameFits,
    decide_eq_true_eq]
  constructor
  · rintro ⟨⟨⟨⟨slots, queue⟩, attempt⟩, response⟩, payloads⟩
    exact ⟨⟨slots, queue, attempt, response⟩, payloads⟩
  · rintro ⟨⟨slots, queue, attempt, response⟩, payloads⟩
    exact ⟨⟨⟨⟨slots, queue⟩, attempt⟩, response⟩, payloads⟩

/-! ### Attempts -/

theorem attemptFits_length {a : Attempt} (fits : attemptFits a = true) : a.frame.bytes.length ≤ 8 := by
  simp only [attemptFits, frameFits, Bool.and_eq_true, decide_eq_true_eq] at fits
  exact fits.1

/-- An attempt whose item is gone still sends a frame that fits. -/
theorem attemptFits_gone {a : Attempt} (fits : attemptFits a = true) : attemptFits { a with item := .gone } = true := by
  simpa [attemptFits, frameFits] using attemptFits_length fits

theorem attempts_of_carried {t u : Transmitter} (same : carried u = carried t)
    (fits : ∀ a, t.attempt = some a → attemptFits a = true) : ∀ a, u.attempt = some a → attemptFits a = true := by
  intro a attempt
  obtain ⟨r, before⟩ := attempt_of_carried same.symm attempt
  have fitsBefore := fits _ before
  exact fitsBefore

theorem attempts_of_detach {t : Transmitter} (p : Item → Bool)
    (fits : ∀ a, t.attempt = some a → attemptFits a = true) :
    ∀ a, (t.detach p).attempt = some a → attemptFits a = true := by
  intro a attempt
  rw [detach_attempt, Option.map_eq_some_iff] at attempt
  obtain ⟨b, before, rfl⟩ := attempt
  split
  · exact attemptFits_gone (fits b before)
  · exact fits b before

/-! ### The transmitter's operations -/

namespace TxFits

theorem detach {t : Transmitter} (p : Item → Bool) (fits : TxFits t) : TxFits (t.detach p) := by
  have same := t.detach_attemptOnly p
  exact ⟨by rw [same.slots]; exact fits.slots, by rw [same.queue]; exact fits.queue,
    attempts_of_detach p fits.attempt, by rw [same.response]; exact fits.response⟩

theorem emptyForwarding {t : Transmitter} (fits : TxFits t) : TxFits t.emptyForwarding :=
  ⟨by simp [Transmitter.emptyForwarding], by simp [Transmitter.emptyForwarding], (fits.detach _).attempt,
    (fits.detach _).response⟩

theorem giveUp {t : Transmitter} (fits : TxFits t) : TxFits t.giveUp :=
  ⟨by simp [Transmitter.giveUp], by simp [Transmitter.giveUp], (fits.detach _).attempt,
    by simp [Transmitter.giveUp]⟩

theorem atRideStart {t : Transmitter} (e : Settings) (fits : TxFits t) : TxFits (t.atRideStart e) :=
  ⟨fits.emptyForwarding.slots, fits.emptyForwarding.queue, fits.emptyForwarding.attempt,
    fits.emptyForwarding.response⟩

theorem atClosing {t : Transmitter} (fits : TxFits t) : TxFits t.atClosing :=
  ⟨fits.emptyForwarding.slots, fits.emptyForwarding.queue, fits.emptyForwarding.attempt,
    fits.emptyForwarding.response⟩

theorem initial : TxFits .initial := by
  constructor <;> simp [Transmitter.initial]

end TxFits

/-! ### What the selector and a response bring -/

/-- A record of the response data at most 5 bytes long makes a frame of 8 bytes (R193). -/
theorem responseFrame_length (s : State) {r : Response} (short : r.data.length ≤ 5) :
    (responseFrame s r).bytes.length = 8 := by
  simp only [responseFrame, padTo, List.length_append, List.length_cons, List.length_nil, List.length_replicate]
  omega

theorem bestSlot_held {s : State} {ws : List (Fin 32)} {w : Fin 32} {fr : Frame}
    (best : bestSlot s ws = some (w, fr)) : s.tx.slots.at w = some fr := by
  induction ws generalizing w fr with
  | nil => cases best
  | cons v ws ih =>
    simp only [bestSlot] at best
    split at best
    · exact ih best
    · cases best; assumption
    · split at best <;> cases best
      · assumption
      · exact ih ‹_›

theorem selectForwarded_fits {s : State} (fits : TxFits s.tx) {i : Item} {fr : Frame}
    (selected : selectForwarded s = some (i, fr)) : attemptFits ⟨fr, i, false⟩ = true := by
  unfold selectForwarded at selected
  split at selected
  · obtain ⟨g, head, same⟩ := Option.map_eq_some_iff.mp selected
    cases same
    simpa [attemptFits, frameFits] using fits.queue _ (List.mem_of_mem_head? head)
  · obtain ⟨⟨w, g⟩, best, same⟩ := Option.map_eq_some_iff.mp selected
    cases same
    simpa [attemptFits, frameFits] using fits.slots w _ (bestSlot_held best)

/-- The attempt that the selector begins fits, and its own frames are of 8 bytes. -/
theorem select_fits {s : State} (fits : TxFits s.tx) {i : Item} {fr : Frame} (selected : select s = some (i, fr)) :
    attemptFits ⟨fr, i, false⟩ = true := by
  unfold select at selected
  split at selected
  · cases selected
    simp [attemptFits, frameFits, responseFrame_length s (fits.response _ ‹_›)]
  · split at selected
    · cases selected; rfl
    · split at selected
      · cases selected; exact selectForwarded_fits fits ‹_›
      · split at selected <;> cases selected
        rfl

namespace FramesFit

theorem selector {s : State} (fits : FramesFit s) : FramesFit (runSelector s) := by
  obtain ⟨t, same, selected⟩ := runSelector_eq s
  have attempts : ∀ a, t.attempt = some a → attemptFits a = true := by
    intro a attempt
    rcases runSelector_attempt s with kept | ⟨-, i, fr, chosen, begun⟩
    · rw [selected] at kept
      exact fits.1.attempt a (kept.symm.trans attempt)
    · rw [selected] at begun
      cases begun.symm.trans attempt
      exact select_fits fits.1 chosen
  rw [selected]
  exact ⟨⟨by rw [State.setTx_tx, same.slots]; exact fits.1.slots,
    by rw [State.setTx_tx, same.queue]; exact fits.1.queue, attempts,
    by rw [State.setTx_tx, same.response]; exact fits.1.response⟩, fits.2⟩

theorem respond {s : State} (c : Byte) (r : Result) {data : List Byte} (short : data.length ≤ 5)
    (fits : FramesFit s) : FramesFit (Machine.respond c r data s) := by
  refine ⟨⟨fits.1.slots, fits.1.queue, fits.1.attempt, ?_⟩, fits.2⟩
  intro x formed
  cases formed
  exact short

/-- A hand-off leaves the held frames, and the attempt but for its resend mark. -/
theorem ofFrame {s t : State} (frame : SampleFrame s t) (same : carried t.tx = carried s.tx) (fits : FramesFit s) :
    FramesFit t :=
  ⟨⟨by rw [frame.slots]; exact fits.1.slots, by rw [frame.queue]; exact fits.1.queue,
    attempts_of_carried same fits.1.attempt, by rw [frame.response]; exact fits.1.response⟩,
    by rw [frame.watchRt]; exact fits.2⟩

theorem offer (w : Fin 32) (fr : Frame) {s : State} (short : fr.bytes.length ≤ 8) (fits : FramesFit s) :
    FramesFit (offerSlot w fr s) := by
  refine ⟨⟨?_, (fits.1.detach _).queue, (fits.1.detach _).attempt, (fits.1.detach _).response⟩, fits.2⟩
  intro v g held
  rw [offerSlot, State.setTx_tx, Table.at_put] at held
  split at held
  · cases held; exact short
  · exact fits.1.slots v g held

theorem enqueue (fr : Frame) {s : State} (short : fr.bytes.length ≤ 8) (fits : FramesFit s) :
    FramesFit (enqueueFrame fr s) := by
  unfold enqueueFrame
  split
  · refine ⟨⟨fits.1.slots, fun g => ?_, fits.1.attempt, fits.1.response⟩, fits.2⟩
    simp only [State.setTx_tx, List.mem_append, List.mem_singleton]
    rintro (held | rfl)
    · exact fits.1.queue g held
    · exact short
  · refine ⟨⟨(fits.1.detach _).slots, fun g => ?_, (fits.1.detach _).attempt, (fits.1.detach _).response⟩, fits.2⟩
    simp only [State.setTx_tx, List.mem_append, List.mem_singleton]
    rintro (held | rfl)
    · exact fits.1.queue g (List.mem_of_mem_tail held)
    · exact short

theorem putWatchRt {s : State} {w : Fin 32} (x : WatchRuntime)
    (payload : x.lastGood = (s.watchRt.at w).lastGood ∨ ∃ b, x.lastGood = some b ∧ b.length ≤ 8)
    (fits : FramesFit s) : FramesFit (setWatchRt w x s) := by
  refine ⟨fits.1, fun v b held => ?_⟩
  change ((s.watchRt.put w x).at v).lastGood = some b at held
  rw [Table.at_put] at held
  split at held
  · rcases payload with same | ⟨c, is, short⟩
    · exact fits.2 w b (same.symm.trans held)
    · cases is.symm.trans held; exact short
  · exact fits.2 v b held

theorem substituteBytes_length (e : WatchEntry) (b : List Byte) : (substituteBytes e b).length = b.length := by
  unfold substituteBytes
  cases e.staleMarker <;> cases e.checksum <;> simp

theorem substitute (w : Fin 32) (e : WatchEntry) {s : State} (fits : FramesFit s) :
    FramesFit (offerSubstitute w e s) := by
  unfold offerSubstitute
  split
  · split
    · exact fits
    · rename_i b held
      exact fits.offer w ⟨e.identifier, substituteBytes e b⟩
        ((substituteBytes_length e b).trans_le (fits.2 w b held))
  · exact fits

/-- The small operations keep every frame within 8 bytes; most touch neither the transmitter nor a payload. -/
theorem stable : Stable FramesFit where
  sample src x _ := ofFrame (takeSample_frame src x _) (takeSample_carried src x _)
  notice f _ := ofFrame (setNotice_frame f _) (setNotice_carried f _)
  selector := selector
  begins cls _ h := by unfold beginClass; split <;> exact h
  ends cls _ h := by unfold endClass; dsimp only; split <;> exact h
  freeUses _ _ h := h
  chassis _ _ _ h := h
  arrival _ h := h
  reload _ h := h
  watchRt := putWatchRt
  substitute := substitute
  offer := offer
  enqueue := enqueue
  signal _ _ _ _ h := h
  histories _ _ h := h
  engine _ _ _ _ h := h
  speed h := h
  absReady h := h
  vote _ _ h := h

theorem congr {s t : State} (tx : t.tx = s.tx) (watchRt : t.watchRt = s.watchRt) (fits : FramesFit s) :
    FramesFit t := by
  rw [FramesFit, tx, watchRt]
  exact fits

/-! ### Rides, loads and requests -/

theorem fresh {s : State} (fits : TxFits s.tx) (initial : s.watchRt = Table.fill 32 .initial) : FramesFit s := by
  refine ⟨fits, fun w b held => ?_⟩
  rw [initial, Table.at_fill] at held
  cases held

theorem rideStart {s : State} (fits : FramesFit s) : FramesFit (Machine.rideStart s) := by
  unfold Machine.rideStart
  rw [rideStartGates_eq]
  refine stable.samples _ (stable.notices _ (fresh ?_ rfl))
  exact fits.1.atRideStart s.tables.settings

theorem closingValues {s : State} (fits : FramesFit s) : FramesFit (Machine.closingValues s) := by
  rw [closingValues_eq]
  exact ⟨fits.1.atClosing, fits.2⟩

theorem enterAsleep {s : State} (fits : FramesFit s) : FramesFit (Machine.enterAsleep s) := by
  rw [enterAsleep_eq]
  exact ⟨fits.1.giveUp, fits.2⟩

theorem enterSettling {s : State} (fits : FramesFit s) : FramesFit (Machine.enterSettling s) := by
  rw [enterSettling_eq]
  exact ⟨fits.1.giveUp, fits.2⟩

theorem finishClosing {s : State} (fits : FramesFit s) : FramesFit (Machine.finishClosing s) := by
  unfold Machine.finishClosing
  split
  · exact fits.enterAsleep
  · exact fits.enterSettling

theorem enterClosing {s : State} (fits : FramesFit s) : FramesFit (Machine.enterClosing s) := by
  unfold Machine.enterClosing
  extract_lets qualified u v
  have closed : FramesFit u := fits.closingValues
  have processed : FramesFit v := by
    simp only [v]
    split
    · exact ofFrame (s := (u.setRide { u.ride with rideNumber := _ }).setMemory { u.memory with dirty := true })
        (closeRecords_frame _) (closeRecords_carried _) closed
    · exact closed
  split
  · exact processed
  · exact processed.finishClosing

theorem startOrClose {s : State} (fits : FramesFit s) : FramesFit (Machine.startOrClose s) := by
  unfold Machine.startOrClose
  split
  · exact fits.rideStart
  · exact fits.enterClosing

theorem ignChanged (level : Level) {s : State} (fits : FramesFit s) : FramesFit (Machine.ignChanged level s) := by
  unfold Machine.ignChanged
  split
  · exact fits.enterSettling
  · exact fits.enterClosing
  · exact fits.enterClosing
  · exact fits.enterClosing
  · split
    · exact fits
    · exact fits.enterClosing
    · exact fits.enterClosing
  all_goals exact fits

theorem loadTables {s : State} (fits : FramesFit s) : FramesFit (Machine.loadTables s) := by
  have loaded := loadTables_loaded s
  have tx : (Machine.loadTables s).tx = s.tx := by unfold Machine.loadTables; split <;> rfl
  refine ⟨by rw [tx]; exact fits.1, fun w b held => ?_⟩
  rw [loaded.watchRt] at held
  split at held
  · cases held
  · exact fits.2 w b held

theorem endOfWork {s : State} (fits : FramesFit s) : FramesFit (Machine.endOfWork s) := by
  refine (startOrClose (fits.respond 0x41 .ok ?_)).selector
  cases s.mgmt.inbox with
  | working work => cases work <;> simp [workData]
  | empty => simp [workData]
  | answered => simp [workData]

theorem bandChanged (new : Band) {s : State} (fits : FramesFit s) : FramesFit (Machine.bandChanged new s) := by
  obtain ⟨c, l, changed⟩ := bandChanged_eq new s
  rw [changed]
  exact fits

theorem removeRecords (p : FaultRecord → Bool) {s : State} (fits : FramesFit s) :
    FramesFit (Machine.removeRecords p s) :=
  ofFrame (removeRecords_frame p s) (removeRecords_carried p s) fits

theorem eraseEntryAt (entry : EntryRef) {s : State} (fits : FramesFit s) :
    FramesFit (Machine.eraseEntryAt entry s) := by
  cases entry with
  | watch i =>
    refine ⟨fits.1, fun w b held => ?_⟩
    change ((s.watchRt.put i .initial).at w).lastGood = some b at held
    rw [Table.at_put] at held
    split at held
    · cases held
    · exact fits.2 w b held
  | signal i => exact stable.replaceSignal i _ fits
  | vote k => exact fits
  | fault f => exact fits
  | settings => exact fits

theorem storeOutcome_fits {α : Type} {decoded : Option α} {reason : α → Option Reason} {put : α → State → State}
    {s t : State} {data : List Byte} (keeps : ∀ e, FramesFit (put e s))
    (stored : storeOutcome decoded reason put s = .inr (t, data)) : FramesFit t ∧ data.length ≤ 5 := by
  unfold storeOutcome at stored
  split at stored
  · cases stored
  · split at stored <;> cases stored
    exact ⟨keeps _, by simp⟩

theorem storeEntry (entry : EntryRef) {s t : State} {data : List Byte} (fits : FramesFit s)
    (stored : storeEntryOutcome entry s = .inr (t, data)) : FramesFit t ∧ data.length ≤ 5 := by
  cases entry with
  | watch i => exact storeOutcome_fits (fun e => fits) stored
  | signal i =>
    exact storeOutcome_fits (fun e => stable.replaceSignal i _ fits) stored
  | vote k => exact storeOutcome_fits (fun e => fits) stored
  | fault f => exact storeOutcome_fits (fun e => fits) stored
  | settings =>
    simp only [storeEntryOutcome] at stored
    split at stored <;> cases stored
    exact ⟨fits, by simp⟩

theorem enterConfigure {s : State} (fits : FramesFit s) : FramesFit (Machine.enterConfigure s) := by
  rw [enterConfigure_eq]
  exact ⟨fits.1.emptyForwarding, fits.2⟩

/-- A request carried out answers with at most 5 bytes of data (section 12.2). -/
theorem carryOut (r : Request) {s : State} (fits : FramesFit s) : FramesFit (Machine.carryOut r s) := by
  cases r with
  | status => exact fits.respond _ _ (by simp [le16])
  | readFault f =>
    refine fits.respond _ _ ?_
    unfold faultReading
    dsimp only
    split <;> simp
  | readSignal i =>
    simp only [Machine.carryOut, doReadSignal]
    split <;> exact fits.respond _ _ (by simp [le16])
  | peekMonitor w =>
    simp only [Machine.carryOut, doPeekMonitor]
    split <;> exact fits.respond _ _ (by simp [monitorReading, le16])
  | fetchRecord k =>
    simp only [Machine.carryOut, doFetchRecord]
    split
    · exact fits.respond _ _ (by simp)
    · exact respond (s := fillBuffer _ s) _ _ (by simp) fits
  | readBuffer o => exact fits.respond _ _ (by simp)
  | writeBuffer o data => exact respond (s := s.setMgmt _) _ _ (by simp) fits
  | clearRecords mask => exact (fits.removeRecords _).respond _ _ (by simp)
  | setNoticeMask level enables =>
    refine respond (s := s.setTx _) _ _ (by simp) ⟨⟨?_, ?_, ?_, ?_⟩, fits.2⟩
    exacts [fits.1.slots, fits.1.queue, fits.1.attempt, fits.1.response]
  | enterConfigure =>
    simp only [Machine.carryOut, doEnterConfigure]
    split
    · exact fits.enterConfigure.respond _ _ (by simp)
    · exact fits.respond _ _ (by simp)
  | leaveConfigure commit =>
    simp only [Machine.carryOut, doLeaveConfigure]
    split
    · unfold doCommit
      split
      · exact fits.respond _ _ (by simp [badEntryData])
      · rw [beginTablesWrite_eq]
        exact removeRecords (orphanRecord s) (s := beginWork _ s) fits
    · exact fits
  | storeEntry e =>
    simp only [Machine.carryOut, doStoreEntry]
    split
    · exact fits.respond _ _ (by simp [badEntryData])
    · obtain ⟨kept, short⟩ := fits.storeEntry e ‹_›
      exact kept.respond _ _ short
  | fetchEntry e =>
    simp only [Machine.carryOut, doFetchEntry]
    split
    · exact fits.respond _ _ (by simp)
    · exact respond (s := fillBuffer _ s) _ _ (by simp) fits
  | eraseEntry e => exact (fits.eraseEntryAt e).respond _ _ (by simp)

/-! ### Attempts -/

theorem endAttempt (count : Nat) {s : State} (fits : FramesFit s) : FramesFit (Machine.endAttempt count s) :=
  ⟨⟨fits.1.slots, fits.1.queue, by simp [Machine.endAttempt], fits.1.response⟩, fits.2⟩

theorem completeItem (a : Attempt) {s : State} (fits : FramesFit s) : FramesFit (Machine.completeItem a s) := by
  unfold Machine.completeItem
  split
  · exact ⟨⟨fits.1.slots, fits.1.queue, fits.1.attempt, by simp⟩, fits.2⟩
  · split
    · exact fits
    · exact ⟨⟨fits.1.slots, fits.1.queue, fits.1.attempt, fits.1.response⟩, fits.2⟩
  · rename_i w
    refine ⟨⟨fun v g held => ?_, fits.1.queue, fits.1.attempt, fits.1.response⟩, fits.2⟩
    rw [State.setTx_tx, Table.at_put] at held
    split at held
    · cases held
    · exact fits.1.slots v g held
  · exact ⟨⟨fits.1.slots, fun g held => fits.1.queue g (List.mem_of_mem_tail held), fits.1.attempt,
      fits.1.response⟩, fits.2⟩
  · split
    · exact fits
    · exact ⟨⟨fits.1.slots, fits.1.queue, fits.1.attempt, fits.1.response⟩, fits.2⟩
  · exact fits

theorem setTx {s : State} {t : Transmitter} (slots : t.slots = s.tx.slots) (queue : t.queue = s.tx.queue)
    (attempt : carried t = carried s.tx) (response : t.response = s.tx.response) (fits : FramesFit s) :
    FramesFit (s.setTx t) :=
  ⟨⟨by rw [State.setTx_tx, slots]; exact fits.1.slots, by rw [State.setTx_tx, queue]; exact fits.1.queue,
    attempts_of_carried attempt fits.1.attempt, by rw [State.setTx_tx, response]; exact fits.1.response⟩, fits.2⟩

theorem attemptFails {s : State} (fits : FramesFit s) : FramesFit (Machine.attemptFails s) := by
  unfold Machine.attemptFails
  extract_lets u
  have ended : FramesFit u := fits.endAttempt _
  split
  · exact stable.sample _ _ (setTx rfl rfl rfl rfl ended)
  · exact ended.selector

theorem beaconExpires {s : State} (fits : FramesFit s) : FramesFit (Machine.beaconExpires s) := by
  have same := s.tx.markResend_attemptOnly .beacon
  exact selector (setTx same.slots same.queue (carried_markResend s.tx .beacon) same.response fits)

theorem tickTimers {s : State} (fits : FramesFit s) : FramesFit (Machine.tickTimers s) := by
  have held : (tickHeldTimers s).tx = s.tx ∧ (tickHeldTimers s).watchRt = s.watchRt := by
    unfold tickHeldTimers
    split <;> simp
  unfold Machine.tickTimers tickFreeTimers
  refine ⟨⟨?_, ?_, ?_, ?_⟩, ?_⟩ <;> simp only [State.setRide_tx, State.setStore_tx, State.setTx_tx,
    State.setRide_watchRt, State.setStore_watchRt, State.setTx_watchRt, held]
  exacts [fits.1.slots, fits.1.queue, fits.1.attempt, fits.1.response, fits.2]

end FramesFit

/-- Settles O55: every operation that places a frame places one that fits, and the selector forms the part's own
frames of 8 bytes. -/
theorem stepKeepsFrames : Obligations.StepKeepsFrames := by
  intro s t fits stepped
  obtain ⟨rest, effect⟩ := step_effect stepped
  rw [framesFit_iff] at fits ⊢
  replace fits : FramesFit (s.setPending rest) := fits
  generalize s.setPending rest = s at fits effect
  have stable := FramesFit.stable
  cases effect with
  | idle => exact fits
  | tick waiting _ => exact fits.tickTimers
  | powerOnReset => exact .fresh .initial rfl
  | leaveReset id0 id1 => exact .fresh .initial rfl
  | frame id _ short => exact stable.takeFrame id short fits
  | busError _ => exact stable.takeBusError fits
  | silence _ => exact stable.silenceExpires fits
  | monitor timed _ => exact (stable.monitorExpires timed fits).selector
  | period timed _ => exact (stable.periodExpires timed fits).selector
  | vote rule due => exact (stable.voteExpires rule due fits).selector
  | pins _ => exact fits
  | ignChange level pins => exact (FramesFit.ignChanged level (s := (s.setPins pins).setRide _) fits).selector
  | bandChange new pins => exact FramesFit.bandChanged new (s := s.setPins pins) fits
  | load _ =>
    have tables : FramesFit (loadTables (endOp s)) := .loadTables (.congr rfl rfl fits)
    have loaded : FramesFit (loadMemory (loadTables (endOp s))) := by
      rw [loadMemory_eq]
      split <;> exact ⟨tables.1, tables.2⟩
    exact loaded.startOrClose.selector
  | memoryWrite _ =>
    rw [memoryWriteCompletes, finishMemoryWrite_eq]
    exact FramesFit.finishClosing ⟨fits.1, fits.2⟩
  | tablesWrite _ =>
    rw [finishTablesWrite_eq]
    exact FramesFit.endOfWork ⟨fits.1, fits.2⟩
  | reload _ => exact (FramesFit.loadTables (s := endOp s) (.congr (s := s) rfl rfl fits)).endOfWork
  | tail _ | ignition _ | proveOut _ | stretch _ | flash _ => exact fits
  | success _ => exact ((fits.endAttempt _).completeItem _).selector
  | failure _ => exact fits.attemptFails
  | outbid _ => exact (fits.endAttempt _).selector
  | offlineEnd _ =>
    unfold portReturns
    refine FramesFit.selector (stable.sample _ _ (FramesFit.setTx ?_ ?_ ?_ ?_ fits)) <;> rfl
  | beacon _ => exact fits.beaconExpires
  | answer c r u _ => exact (FramesFit.respond (s := s.setFreeUses u) c r (by simp) fits).selector
  | request _ _ => exact (fits.carryOut _).selector

end Sys2Proof.Proofs
end

section
/-!
PROOFS. Monitors and vote timers run exactly while their gates are open; store operations, the inbox, the response
and HOLD fit the ride state (R20 to R23, R57, R58, R71, R76, R83, R165, R167).
-/

namespace Sys2Proof.Proofs

open Sys2Proof.Machine

/-! ### Attempts -/

/-- What holds of every attempt's frame and item holds of an attempt that carries the same. -/
theorem forall_attempt_of_carried {t u : Transmitter} {Q : Frame → Item → Prop} (same : carried u = carried t)
    (h : ∀ a, t.attempt = some a → Q a.frame a.item) : ∀ a, u.attempt = some a → Q a.frame a.item := by
  intro a attempt
  obtain ⟨r, before⟩ := attempt_of_carried same.symm attempt
  have held := h _ before
  exact held

/-- An attempt that was detached carries what it carried, or an item that is gone. -/
theorem forall_attempt_of_detach {t : Transmitter} {Q : Frame → Item → Prop} (p : Item → Bool)
    (gone : ∀ fr, Q fr .gone) (h : ∀ a, t.attempt = some a → Q a.frame a.item) :
    ∀ a, (t.detach p).attempt = some a → Q a.frame a.item := by
  intro a attempt
  rw [detach_attempt, Option.map_eq_some_iff] at attempt
  obtain ⟨b, before, rfl⟩ := attempt
  dsimp only
  split
  · exact gone _
  · exact h b before

/-- The selector takes a response only where there is one. -/
theorem select_response {s : State} {fr : Frame} (chosen : select s = some (.response, fr)) :
    s.tx.response.isSome = true := by
  unfold select at chosen
  split at chosen
  · simp [*]
  · split at chosen
    · cases chosen
    · split at chosen
      · rename_i x forwarded
        cases chosen
        unfold selectForwarded at forwarded
        split at forwarded <;> simp at forwarded
      · split at chosen <;> cases chosen

/-! ### The invariants in propositions -/

/-- Monitors and vote timers run exactly while their gates are open in a ride state. -/
structure GatesFit (t : Tables) (st : RideState) (m : Table Monitor 32) (v : Table (Option Nat) 4) : Prop where
  monitors : ∀ w, (m.at w).running = (timedEntry t w).any fun e => gateOpen e.gate st
  votes : ∀ k, (v.at k).isSome = (t.votes.at k).any fun r => gateOpen r.gate st

/-- The response and the attempt fit the inbox. -/
structure ResponseFits (inbox : Inbox) (t : Transmitter) : Prop where
  response : t.response.isSome = true ↔ inbox = .answered
  attempt : ∀ a, t.attempt = some a → a.item = .response → t.response.isSome = true

/-- The work of a LEAVE CONFIGURE takes the store. -/
def StoreWork.forInbox (w : StoreWork) : Prop := w = .tablesWrite ∨ w = .reload

/-- The store operation fits the ride state and the inbox. -/
structure OperationFits (st : RideState) (op : Option StoreOp) (inbox : Inbox) : Prop where
  idle : op = none → st ≠ .settling ∧ st ≠ .closing
  state : ∀ o, op = some o → st = o.work.rideState
  inbox : (∃ w, inbox = .working w) ↔ ∃ o, op = some o ∧ StoreWork.forInbox o.work

/-- What `operationsKept` and `gatesKept` say. -/
structure GatesAndOperations (s : State) : Prop where
  gates : GatesFit s.tables s.ride.state s.monitors s.voteTimers
  response : ResponseFits s.mgmt.inbox s.tx
  operation : OperationFits s.ride.state s.store.op s.mgmt.inbox
  hold : s.ride.hold = true ↔ s.ride.state ≠ .asleep

theorem gatesKept_iff (s : State) :
    gatesKept s = true ↔ GatesFit s.tables s.ride.state s.monitors s.voteTimers := by
  have monitor (w : Fin 32) : monitorFitsGate s w = true ↔
      (s.monitors.at w).running = (timedEntry s.tables w).any fun e => gateOpen e.gate s.ride.state := by
    unfold monitorFitsGate
    cases timedEntry s.tables w <;> simp
  have vote (k : Fin 4) : voteFitsGate s k = true ↔
      (s.voteTimers.at k).isSome = (s.tables.votes.at k).any fun r => gateOpen r.gate s.ride.state := by
    unfold voteFitsGate
    cases s.tables.votes.at k <;> simp
  simp only [gatesKept, Bool.and_eq_true, everyIndex_iff, monitor, vote]
  exact ⟨fun ⟨m, v⟩ => ⟨m, v⟩, fun ⟨m, v⟩ => ⟨m, v⟩⟩

theorem responseFitsInbox_iff (s : State) : responseFitsInbox s = true ↔ ResponseFits s.mgmt.inbox s.tx := by
  have agree : (s.tx.response.isSome == (s.mgmt.inbox == .answered)) = true ↔
      (s.tx.response.isSome = true ↔ s.mgmt.inbox = .answered) := by
    rw [beq_iff_eq, Bool.eq_iff_iff, beq_iff_eq]
  have attempt : (!attemptIsResponse s.tx || s.tx.response.isSome) = true ↔
      ∀ a, s.tx.attempt = some a → a.item = .response → s.tx.response.isSome = true := by
    unfold attemptIsResponse
    cases s.tx.attempt with
    | none => simp
    | some b =>
      rw [Bool.or_eq_true, Bool.not_eq_true', beq_eq_false_iff_ne, ← imp_iff_not_or]
      exact ⟨fun held a same => (by cases same; exact held), fun held => held b rfl⟩
  rw [responseFitsInbox, Bool.and_eq_true, agree, attempt]
  exact ⟨fun ⟨r, a⟩ => ⟨r, a⟩, fun ⟨r, a⟩ => ⟨r, a⟩⟩

theorem inboxFitsOperation_iff (s : State) : inboxFitsOperation s = true ↔
    ((∃ w, s.mgmt.inbox = .working w) ↔ ∃ o, s.store.op = some o ∧ StoreWork.forInbox o.work) := by
  unfold inboxFitsOperation
  cases s.store.op with
  | none => cases s.mgmt.inbox <;> simp
  | some o => cases s.mgmt.inbox <;> cases work : o.work <;> simp [StoreWork.forInbox, work]

theorem operationFits_iff (s : State) : (operationFitsState s = true ∧ inboxFitsOperation s = true) ↔
    OperationFits s.ride.state s.store.op s.mgmt.inbox := by
  rw [inboxFitsOperation_iff]
  unfold operationFitsState
  constructor
  · rintro ⟨state, inbox⟩
    refine ⟨fun idle => ?_, fun o busy => ?_, inbox⟩
    · simpa [idle] using state
    · simpa [busy] using state
  · rintro ⟨idle, state, inbox⟩
    refine ⟨?_, inbox⟩
    cases op : s.store.op with
    | none => simpa using idle op
    | some o => simpa using state o op

theorem gatesAndOperations_iff (s : State) :
    (operationsKept s = true ∧ gatesKept s = true) ↔ GatesAndOperations s := by
  have hold : holdKept s = true ↔ (s.ride.hold = true ↔ s.ride.state ≠ .asleep) := by
    rw [holdKept, beq_iff_eq, Bool.eq_iff_iff, bne_iff_ne]
  simp only [operationsKept, Bool.and_eq_true, operationFits_iff, responseFitsInbox_iff, gatesKept_iff, hold]
  exact ⟨fun ⟨⟨⟨o, r⟩, h⟩, g⟩ => ⟨g, r, o, h⟩, fun ⟨g, r, o, h⟩ => ⟨⟨⟨o, r⟩, h⟩, g⟩⟩

/-! ### Gates -/

/-- No gate is open outside the running states (R21). -/
theorem gateOpen_of_stopped (g : Gate) {st : RideState} (stopped : st.isRunning = false) :
    gateOpen g st = false := by
  cases st <;> cases g <;> simp [gateOpen, RideState.isRunning] at stopped ⊢

namespace GatesFit

theorem stopped {t : Tables} {st : RideState} {m : Table Monitor 32} {v : Table (Option Nat) 4}
    (fits : GatesFit t st m v) (outside : st.isRunning = false) :
    (∀ w, (m.at w).running = false) ∧ ∀ k, v.at k = none := by
  constructor
  · intro w
    rw [fits.monitors]
    simp [gateOpen_of_stopped _ outside]
  · intro k
    have none := fits.votes k
    simpa [gateOpen_of_stopped _ outside] using none

/-- Outside the running states nothing runs, whatever the tables. -/
theorem of_stopped {t : Tables} {st : RideState} {m : Table Monitor 32} {v : Table (Option Nat) 4}
    (outside : st.isRunning = false) (monitors : ∀ w, (m.at w).running = false) (votes : ∀ k, v.at k = none) :
    GatesFit t st m v :=
  ⟨fun w => by simp [monitors, gateOpen_of_stopped _ outside],
    fun k => by simp [votes, gateOpen_of_stopped _ outside]⟩

/-- The gate events of a change of ride state keep the agreement (R22, R23, R58). -/
theorem move {s : State} (fits : GatesFit s.tables s.ride.state s.monitors s.voteTimers) (new : RideState) :
    GatesFit s.tables new (moveGates s.ride.state new s).monitors (moveGates s.ride.state new s).voteTimers := by
  constructor
  · intro w
    have before := fits.monitors w
    simp only [moveGates, State.setVoteTimers_monitors, State.setMonitors_monitors, Table.at_build]
    cases timed : timedEntry s.tables w with
    | none => simpa [timed] using before
    | some e =>
      simp only [timed, Option.any_some] at before ⊢
      unfold gateMonitor
      split_ifs with opens closes
      · exact opens.2.symm
      · exact closes.2.symm
      · rw [before]
        cases was : gateOpen e.gate s.ride.state <;> cases is : gateOpen e.gate new
        · rfl
        · exact absurd ⟨was, is⟩ opens
        · exact absurd ⟨was, is⟩ closes
        · rfl
  · intro k
    have before := fits.votes k
    simp only [moveGates, State.setVoteTimers_voteTimers, Table.at_build]
    cases rule : s.tables.votes.at k with
    | none => simpa [rule] using before
    | some r =>
      simp only [rule, Option.any_some] at before ⊢
      unfold gateVoteTimer
      split_ifs with opens closes
      · exact opens.2.symm
      · exact closes.2.symm
      · rw [before]
        cases was : gateOpen r.gate s.ride.state <;> cases is : gateOpen r.gate new
        · rfl
        · exact absurd ⟨was, is⟩ opens
        · exact absurd ⟨was, is⟩ closes
        · rfl

theorem putMonitor {t : Tables} {st : RideState} {m : Table Monitor 32} {v : Table (Option Nat) 4}
    (fits : GatesFit t st m v) {w : Fin 32} {x : Monitor} (running : x.running = (m.at w).running) :
    GatesFit t st (m.put w x) v := by
  refine ⟨fun u => ?_, fits.votes⟩
  rw [Table.at_put]
  split
  · subst ‹w = u›; exact running.trans (fits.monitors w)
  · exact fits.monitors u

theorem putVote {t : Tables} {st : RideState} {m : Table Monitor 32} {v : Table (Option Nat) 4}
    (fits : GatesFit t st m v) {k : Fin 4} {x : Option Nat} (running : x.isSome = (v.at k).isSome) :
    GatesFit t st m (v.put k x) := by
  refine ⟨fits.monitors, fun u => ?_⟩
  rw [Table.at_put]
  split
  · subst ‹k = u›; exact running.trans (fits.votes k)
  · exact fits.votes u

end GatesFit

theorem afterArrival_running (e : WatchEntry) (m : Monitor) : (m.afterArrival e).running = m.running := by
  unfold Monitor.afterArrival
  split <;> rfl

/-! ### Responses -/

namespace ResponseFits

theorem ofCarried {inbox : Inbox} {t u : Transmitter} (fits : ResponseFits inbox t)
    (response : u.response = t.response) (same : carried u = carried t) : ResponseFits inbox u :=
  ⟨by rw [response]; exact fits.response, by
    rw [response]
    exact forall_attempt_of_carried (Q := fun _ i => i = .response → t.response.isSome = true) same fits.attempt⟩

theorem detach {inbox : Inbox} {t u : Transmitter} (p : Item → Bool) (fits : ResponseFits inbox t)
    (response : u.response = t.response) (attempt : u.attempt = (t.detach p).attempt) : ResponseFits inbox u := by
  refine ⟨by rw [response]; exact fits.response, ?_⟩
  rw [response, attempt]
  exact forall_attempt_of_detach (Q := fun _ i => i = .response → t.response.isSome = true) p
    (fun _ gone => by cases gone) fits.attempt

/-- With every item given up, no attempt carries a response. -/
theorem giveUp {inbox : Inbox} (t : Transmitter) (inboxFree : inbox ≠ .answered) :
    ResponseFits inbox t.giveUp := by
  rw [Transmitter.giveUp_eq]
  refine ⟨by simpa using inboxFree, fun a attempt item => ?_⟩
  obtain ⟨b, -, rfl⟩ := Option.map_eq_some_iff.mp attempt
  cases item

theorem emptyForwarding {inbox : Inbox} {t u : Transmitter} (fits : ResponseFits inbox t)
    (response : u.response = t.response) (attempt : u.attempt = t.emptyForwarding.attempt) :
    ResponseFits inbox u :=
  fits.detach Item.isForwarded response attempt

end ResponseFits

/-! ### The small operations -/

namespace GatesAndOperations

theorem ofFrame {s t : State} (frame : SampleFrame s t) (same : carried t.tx = carried s.tx)
    (fits : GatesAndOperations s) : GatesAndOperations t where
  gates := by rw [frame.tables, frame.ride, frame.monitors, frame.voteTimers]; exact fits.gates
  response := by rw [frame.mgmt]; exact fits.response.ofCarried frame.response same
  operation := by rw [frame.ride, frame.store, frame.mgmt]; exact fits.operation
  hold := by rw [frame.ride]; exact fits.hold

theorem setTx {s : State} {t : Transmitter} (fits : GatesAndOperations s) (response : ResponseFits s.mgmt.inbox t) :
    GatesAndOperations (s.setTx t) :=
  ⟨fits.gates, response, fits.operation, fits.hold⟩

theorem selector {s : State} (fits : GatesAndOperations s) : GatesAndOperations (runSelector s) := by
  have frame := runSelector_eq_with_attempt s
  have response : (runSelector s).tx.response = s.tx.response := by rw [frame]
  rw [frame]
  refine ⟨fits.gates, ⟨fits.response.response, fun a attempt item => ?_⟩, fits.operation, fits.hold⟩
  rcases runSelector_attempt s with same | ⟨-, i, fr, chosen, begun⟩
  · exact fits.response.attempt a (same.symm.trans attempt) item
  · cases begun.symm.trans attempt
    cases item
    exact select_response chosen

theorem enterRideState (new : RideState) {s : State} (running : s.ride.state.isRunning = true)
    (runningNew : new.isRunning = true) (fits : GatesAndOperations s) :
    GatesAndOperations (Machine.enterRideState new s) := by
  have idle : s.store.op = none := by
    cases op : s.store.op with
    | none => rfl
    | some o =>
      rw [fits.operation.state o op] at running
      cases work : o.work <;> simp [work, StoreWork.rideState, RideState.isRunning] at running
  have hold : s.ride.hold = true := fits.hold.mpr fun asleep => by simp [asleep, RideState.isRunning] at running
  refine ⟨fits.gates.move new, fits.response, ⟨fun _ => ?_, fun o busy => ?_, fits.operation.inbox⟩, ?_⟩
  · constructor <;> rintro rfl <;> cases runningNew
  · cases idle.symm.trans busy
  · refine iff_of_true hold ?_
    rintro rfl
    cases runningNew

theorem stable : Stable GatesAndOperations where
  sample src x _ := ofFrame (takeSample_frame src x _) (takeSample_carried src x _)
  notice f _ := ofFrame (setNotice_frame f _) (setNotice_carried f _)
  selector := selector
  begins cls _ h := by unfold beginClass; split <;> exact ⟨h.gates, h.response, h.operation, h.hold⟩
  ends cls _ h := by unfold endClass; dsimp only; split <;> exact ⟨h.gates, h.response, h.operation, h.hold⟩
  freeUses _ _ h := ⟨h.gates, h.response, h.operation, h.hold⟩
  chassis _ _ _ h := ⟨h.gates, h.response, h.operation, h.hold⟩
  arrival _ h := ⟨h.gates.putMonitor (afterArrival_running _ _), h.response, h.operation, h.hold⟩
  reload _ h := ⟨h.gates.putMonitor rfl, h.response, h.operation, h.hold⟩
  watchRt _ _ h := ⟨h.gates, h.response, h.operation, h.hold⟩
  substitute w e _ h := by
    unfold offerSubstitute
    split
    · split
      · exact h
      · exact h.setTx (h.response.detach _ (Transmitter.detach_attemptOnly _ _).response rfl)
    · exact h
  offer w fr _ _ h := h.setTx (h.response.detach _ (Transmitter.detach_attemptOnly _ _).response rfl)
  enqueue fr _ _ h := by
    unfold enqueueFrame
    split
    · exact h.setTx (h.response.ofCarried rfl rfl)
    · exact h.setTx (h.response.detach _ (Transmitter.detach_attemptOnly _ _).response rfl)
  signal _ _ _ _ h := ⟨h.gates, h.response, h.operation, h.hold⟩
  histories _ _ h := ⟨h.gates, h.response, h.operation, h.hold⟩
  engine new _ := enterRideState new
  speed h := ⟨h.gates, h.response, h.operation, h.hold⟩
  absReady h := ⟨h.gates, h.response, h.operation, h.hold⟩
  vote _ runs h := ⟨h.gates.putVote (by rw [runs]; rfl), h.response, h.operation, h.hold⟩

/-! ### Rides begun and closed -/

/-- What a ride begins or closes from: the store free, HOLD asserted, and no LEAVE CONFIGURE at work. -/
structure Handover (s : State) : Prop where
  idle : s.store.op = none
  hold : s.ride.hold = true
  inbox : ∀ w, s.mgmt.inbox ≠ .working w
  response : ResponseFits s.mgmt.inbox s.tx

theorem Handover.operation {s : State} (from_ : Handover s) {st : RideState} (settling : st ≠ .settling)
    (closing : st ≠ .closing) : OperationFits st s.store.op s.mgmt.inbox := by
  refine ⟨fun _ => ⟨settling, closing⟩, fun o busy => (by cases from_.idle.symm.trans busy), ?_⟩
  refine iff_of_false (fun ⟨w, at_⟩ => from_.inbox w at_) ?_
  rintro ⟨o, busy, -⟩
  cases from_.idle.symm.trans busy

theorem rideStart {s : State} (from_ : Handover s) : GatesAndOperations (Machine.rideStart s) := by
  unfold Machine.rideStart
  rw [rideStartGates_eq]
  refine stable.samples _ (stable.notices _ ⟨⟨fun w => ?_, fun k => ?_⟩, ?_, ?_, ?_⟩)
  · simp only [lampsAtRideStart, State.setLamps_monitors, State.setLamps_tables, State.setLamps_ride,
      Table.at_build]
    cases timedEntry s.tables w with
    | none => rfl
    | some e => dsimp only; rw [gateMonitor_start]; cases gate : e.gate <;> simp [gateOpen, gate, RideState.isRunning]
  · simp only [lampsAtRideStart, State.setLamps_voteTimers, State.setLamps_tables, State.setLamps_ride,
      Table.at_build]
    cases s.tables.votes.at k with
    | none => rfl
    | some r => dsimp only; rw [gateVoteTimer_start]; cases gate : r.gate <;> simp [gateOpen, gate, RideState.isRunning]
  · have emptied : (s.tx.atRideStart s.tables.settings).response = s.tx.response := by
      rw [Transmitter.atRideStart, Transmitter.emptyForwarding_eq]
    exact from_.response.emptyForwarding emptied rfl
  · exact from_.operation (by simp [lampsAtRideStart]) (by simp [lampsAtRideStart])
  · exact iff_of_true from_.hold (by simp [lampsAtRideStart])

/-- Step 5 of CLOSING: what runs is at rest, and the inbox and the response are given up. -/
theorem finishClosing {s : State} (idle : s.store.op = none) (monitors : ∀ w, (s.monitors.at w).running = false)
    (votes : ∀ k, s.voteTimers.at k = none) : GatesAndOperations (Machine.finishClosing s) := by
  unfold Machine.finishClosing
  split
  · rw [enterAsleep_eq]
    refine ⟨.of_stopped rfl monitors votes, .giveUp _ (by simp), ⟨fun _ => by simp, fun o busy => ?_, ?_⟩, by simp⟩
    · cases idle.symm.trans busy
    · simp [idle]
  · rw [enterSettling_eq]
    refine ⟨.of_stopped rfl (fun w => ?_) (fun k => ?_), .giveUp _ (by simp),
      ⟨fun none => (by cases none), fun o busy => ?_, ?_⟩, by simp⟩
    · rw [Table.at_fill]; rfl
    · rw [Table.at_fill]
    · cases busy; rfl
    · simp [StoreWork.forInbox]

/-- The values of CLOSING are those of a ride that can be closed, and nothing runs any more. -/
theorem closingValues {s : State} (from_ : Handover s)
    (gates : GatesFit s.tables s.ride.state s.monitors s.voteTimers) :
    Handover (Machine.closingValues s) ∧ (Machine.closingValues s).ride.state = .closing ∧
      GatesFit (Machine.closingValues s).tables .closing (Machine.closingValues s).monitors
        (Machine.closingValues s).voteTimers := by
  have moved := gates.move .closing
  simp only [moveGates, State.setVoteTimers_monitors, State.setMonitors_monitors,
    State.setVoteTimers_voteTimers] at moved
  have emptied : s.tx.atClosing.response = s.tx.response := by
    rw [Transmitter.atClosing, Transmitter.emptyForwarding_eq]
  rw [closingValues_eq]
  exact ⟨⟨from_.idle, from_.hold, from_.inbox, from_.response.emptyForwarding emptied rfl⟩, rfl, moved⟩

theorem enterClosing {s : State} (from_ : Handover s)
    (gates : GatesFit s.tables s.ride.state s.monitors s.voteTimers) :
    GatesAndOperations (Machine.enterClosing s) := by
  unfold Machine.enterClosing
  extract_lets qualified u v
  have closed : Handover u ∧ u.ride.state = .closing ∧
      GatesFit u.tables .closing u.monitors u.voteTimers := closingValues from_ gates
  have processed : Handover v ∧ v.ride.state = .closing ∧
      GatesFit v.tables .closing v.monitors v.voteTimers := by
    simp only [v]
    split
    · obtain ⟨⟨idle, hold, inbox, response⟩, state, gates⟩ := closed
      unfold qualifiedClosure
      have frame := closeRecords_frame ((u.setRide { u.ride with
        rideNumber := min (u.ride.rideNumber + 1) 65535 }).setMemory { u.memory with dirty := true })
      have same := closeRecords_carried ((u.setRide { u.ride with
        rideNumber := min (u.ride.rideNumber + 1) 65535 }).setMemory { u.memory with dirty := true })
      refine ⟨⟨?_, ?_, ?_, ?_⟩, ?_, ?_⟩
      · rw [frame.store]; exact idle
      · rw [frame.ride]; exact hold
      · rw [frame.mgmt]; exact inbox
      · rw [frame.mgmt]; exact response.ofCarried frame.response same
      · rw [frame.ride]; exact state
      · rw [frame.tables, frame.monitors, frame.voteTimers]; exact gates
    · exact closed
  obtain ⟨handover, state, gates⟩ := processed
  obtain ⟨monitors, votes⟩ := gates.stopped rfl
  split
  · rw [beginMemoryWrite_eq]
    refine ⟨.of_stopped (by rw [state]; rfl) monitors votes, handover.response,
      ⟨fun none => (by cases none), fun o busy => ?_, ?_⟩, iff_of_true handover.hold ?_⟩
    · cases busy; exact state
    · refine iff_of_false (fun ⟨w, at_⟩ => handover.inbox w at_) ?_
      rintro ⟨o, busy, work⟩
      cases busy
      cases work <;> contradiction
    · rw [state]; decide
  · exact finishClosing handover.idle monitors votes

theorem startOrClose {s : State} (from_ : Handover s)
    (gates : GatesFit s.tables s.ride.state s.monitors s.voteTimers) :
    GatesAndOperations (Machine.startOrClose s) := by
  unfold Machine.startOrClose
  split
  · exact rideStart from_
  · exact enterClosing from_ gates

/-- Without a LEAVE CONFIGURE at work, in a running state or CONFIGURE, the ride can be closed. -/
theorem handover {s : State} (fits : GatesAndOperations s)
    (open_ : s.ride.state.isRunning = true ∨ s.ride.state = .configure) (inbox : ∀ w, s.mgmt.inbox ≠ .working w) :
    Handover s := by
  refine ⟨?_, fits.hold.mpr ?_, inbox, fits.response⟩
  · cases op : s.store.op with
    | none => rfl
    | some o =>
      have notAtWork : ¬StoreWork.forInbox o.work := fun work =>
        (fits.operation.inbox.mpr ⟨o, op, work⟩).elim inbox
      rw [fits.operation.state o op] at open_
      cases work : o.work <;>
        simp [work, StoreWork.rideState, RideState.isRunning, StoreWork.forInbox] at open_ notAtWork
  · intro asleep
    simp [asleep, RideState.isRunning] at open_

theorem ignChanged (level : Level) {s : State} (fits : GatesAndOperations s) :
    GatesAndOperations (Machine.ignChanged level s) := by
  have closes (running : s.ride.state.isRunning = true) : GatesAndOperations (Machine.enterClosing s) := by
    refine enterClosing (fits.handover (.inl running) fun w at_ => ?_) fits.gates
    obtain ⟨o, busy, work⟩ := fits.operation.inbox.mp ⟨w, at_⟩
    rw [fits.operation.state o busy] at running
    rcases work with work | work <;> simp [work, StoreWork.rideState, RideState.isRunning] at running
  unfold Machine.ignChanged
  split
  · rw [enterSettling_eq]
    refine ⟨.of_stopped rfl (fun w => ?_) (fun k => ?_), .giveUp _ (by simp),
      ⟨fun none => (by cases none), fun o busy => ?_, ?_⟩, by simp⟩
    · rw [Table.at_fill]; rfl
    · rw [Table.at_fill]
    · cases busy; rfl
    · simp [StoreWork.forInbox]
  · exact closes (by simp [RideState.isRunning, *])
  · exact closes (by simp [RideState.isRunning, *])
  · exact closes (by simp [RideState.isRunning, *])
  · split
    · exact fits
    · exact enterClosing (fits.handover (.inr ‹_›) (by simp [*])) fits.gates
    · exact enterClosing (fits.handover (.inr ‹_›) (by simp [*])) fits.gates
  all_goals exact fits

/-! ### The ends of the store operations -/

/-- A store operation that may complete fits the ride state. -/
theorem busy {s : State} (fits : GatesAndOperations s) {w : StoreWork} (mayComplete : opMayComplete s w = true) :
    s.ride.state = w.rideState ∧ (StoreWork.forInbox w ↔ ∃ x, s.mgmt.inbox = .working x) := by
  unfold opMayComplete at mayComplete
  cases op : s.store.op with
  | none => simp [op] at mayComplete
  | some o =>
    simp only [op, Bool.and_eq_true, beq_iff_eq] at mayComplete
    obtain ⟨rfl, -⟩ := mayComplete
    refine ⟨fits.operation.state o op, ?_⟩
    rw [fits.operation.inbox, op]
    simp

theorem hold_of_busy {s : State} (fits : GatesAndOperations s) {w : StoreWork}
    (mayComplete : opMayComplete s w = true) : s.ride.hold = true := by
  refine fits.hold.mpr ?_
  rw [(fits.busy mayComplete).1]
  cases w <;> simp [StoreWork.rideState]

/-- Tables installed outside the running states: nothing runs, and the rest that a ride begins from stays. -/
theorem loadTables_rest (s : State) : (loadTables s).store = s.store ∧ (loadTables s).ride = s.ride ∧
    (loadTables s).tx = s.tx ∧ (loadTables s).mgmt.inbox = s.mgmt.inbox := by
  unfold loadTables
  split <;> (rw [installTables_eq]; simp)

theorem loadTables_gates {s : State} (outside : s.ride.state.isRunning = false)
    (gates : GatesFit s.tables s.ride.state s.monitors s.voteTimers) :
    GatesFit (loadTables s).tables s.ride.state (loadTables s).monitors (loadTables s).voteTimers := by
  obtain ⟨monitors, votes⟩ := gates.stopped outside
  have loaded := loadTables_loaded s
  refine .of_stopped outside (fun w => ?_) (fun k => ?_)
  · rw [loaded.monitors]
    split
    · rfl
    · exact monitors w
  · rw [loaded.voteTimers]
    split
    · rfl
    · exact votes k

/-- A response formed by no LEAVE CONFIGURE at work. -/
theorem respond (c : Byte) (r : Result) (d : List Byte) {s : State} (fits : GatesAndOperations s)
    (free : ∀ w, s.mgmt.inbox ≠ .working w) : GatesAndOperations (Machine.respond c r d s) := by
  have notAtWork : ¬∃ o, s.store.op = some o ∧ StoreWork.forInbox o.work := fun work =>
    (fits.operation.inbox.mpr work).elim free
  refine ⟨fits.gates, ⟨by simp [Machine.respond], fun _ _ _ => rfl⟩, ⟨fits.operation.idle, fits.operation.state, ?_⟩,
    fits.hold⟩
  refine iff_of_false ?_ notAtWork
  rintro ⟨w, at_⟩
  cases at_

theorem endOfWork {s : State} (idle : s.store.op = none) (hold : s.ride.hold = true)
    (gates : GatesFit s.tables s.ride.state s.monitors s.voteTimers) :
    GatesAndOperations (Machine.endOfWork s) := by
  unfold Machine.endOfWork
  refine selector (startOrClose ⟨idle, hold, fun w at_ => ?_, ?_⟩ gates)
  · cases at_
  · exact ⟨by simp [Machine.respond], fun _ _ _ => rfl⟩

theorem loadCompletes {s : State} (fits : GatesAndOperations s) (mayComplete : opMayComplete s .load = true) :
    GatesAndOperations (Machine.loadCompletes s) := by
  obtain ⟨state, work⟩ := fits.busy mayComplete
  have free (w : Work) : s.mgmt.inbox ≠ .working w := fun at_ => by
    have := work.mpr ⟨w, at_⟩
    simp [StoreWork.forInbox] at this
  have outside : (endOp s).ride.state.isRunning = false := by
    change s.ride.state.isRunning = false
    rw [state]; rfl
  have hold := fits.hold_of_busy mayComplete
  obtain ⟨store, ride, tx, inbox⟩ := loadTables_rest (endOp s)
  have gates := loadTables_gates outside fits.gates
  rw [← ride] at gates
  have loaded : Handover (loadTables (endOp s)) := by
    refine ⟨by rw [store]; rfl, by rw [ride]; exact hold, by rw [inbox]; exact free, ?_⟩
    rw [inbox, tx]
    exact fits.response
  obtain ⟨idle, hold, inbox, response⟩ := loaded
  refine selector ?_
  rw [loadMemory_eq]
  split
  · exact startOrClose ⟨idle, hold, inbox, response⟩ gates
  · exact startOrClose ⟨idle, hold, inbox, response⟩ gates

/-! ### Requests -/

/-- In CONFIGURE the gates of every entry are closed, so an entry stored or erased leaves nothing running. -/
theorem edit {s t : State} (fits : GatesAndOperations s) (configure : s.ride.state = .configure)
    (monitors : ∀ w, (t.monitors.at w).running = true → (s.monitors.at w).running = true)
    (votes : ∀ k, t.voteTimers.at k = none ∨ t.voteTimers.at k = s.voteTimers.at k) (ride : t.ride = s.ride)
    (tx : t.tx = s.tx) (mgmt : t.mgmt = s.mgmt) (store : t.store = s.store) : GatesAndOperations t := by
  have outside : s.ride.state.isRunning = false := by rw [configure]; rfl
  obtain ⟨rest, idle⟩ := fits.gates.stopped outside
  refine ⟨.of_stopped (by rw [ride]; exact outside) (fun w => ?_) (fun k => ?_), ?_, ?_, by rw [ride]; exact fits.hold⟩
  · rw [Bool.eq_false_iff]
    intro running
    exact absurd (monitors w running) (by simp [rest w])
  · rcases votes k with none | same
    · exact none
    · exact same.trans (idle k)
  · rw [mgmt, tx]; exact fits.response
  · rw [ride, store, mgmt]; exact fits.operation

theorem storeWatch (i : Fin 32) (x : Option WatchEntry) {s : State} (fits : GatesAndOperations s)
    (configure : s.ride.state = .configure) : GatesAndOperations
      ((s.setTables { s.tables with watch := s.tables.watch.put i x }).setMonitors (s.monitors.put i .initial)) := by
  refine fits.edit configure (fun w running => ?_) (fun k => .inr rfl) rfl rfl rfl rfl
  rw [State.setMonitors_monitors, Table.at_put] at running
  split at running
  · cases running
  · exact running

theorem replaceSignal (i : Fin 64) (x : Option SignalEntry) {s : State} (fits : GatesAndOperations s)
    (configure : s.ride.state = .configure) : GatesAndOperations (Machine.replaceSignal i x s) :=
  stable.replaceSignal i x (fits.edit configure (fun _ running => running) (fun _ => .inr rfl) rfl rfl rfl rfl)

theorem replaceVote (k : Fin 4) (x : Option VoteRule) {s : State} (fits : GatesAndOperations s)
    (configure : s.ride.state = .configure) : GatesAndOperations (Machine.replaceVote k x s) := by
  refine fits.edit configure (fun _ running => running) (fun j => ?_) rfl rfl rfl rfl
  simp only [Machine.replaceVote, State.setVoteTimers_voteTimers, Table.at_put]
  split
  · exact .inl rfl
  · exact .inr rfl

theorem replaceFault (f : Fin 64) (x : Option FaultDef) {s : State} (fits : GatesAndOperations s)
    (configure : s.ride.state = .configure) : GatesAndOperations (Machine.replaceFault f x s) :=
  fits.edit configure (fun _ running => running) (fun _ => .inr rfl) rfl rfl rfl rfl

theorem replaceSettings (e : Settings) {s : State} (fits : GatesAndOperations s)
    (configure : s.ride.state = .configure) : GatesAndOperations (Machine.replaceSettings e s) :=
  fits.edit configure (fun _ running => running) (fun _ => .inr rfl) rfl rfl rfl rfl

theorem eraseEntryAt (entry : EntryRef) {s : State} (fits : GatesAndOperations s)
    (configure : s.ride.state = .configure) : GatesAndOperations (Machine.eraseEntryAt entry s) := by
  cases entry with
  | watch i =>
    have erased := fits.storeWatch i none configure
    exact ⟨erased.gates, erased.response, erased.operation, erased.hold⟩
  | signal i => exact fits.replaceSignal i none configure
  | vote k => exact fits.replaceVote k none configure
  | fault f => exact fits.replaceFault f none configure
  | settings => exact fits.replaceSettings _ configure

theorem regulatingUpdate_mgmt (before after : Int) (s : State) : (regulatingUpdate before after s).mgmt = s.mgmt := by
  unfold regulatingUpdate
  split
  · unfold beginClass
    split <;> rfl
  · split
    · unfold endClass
      dsimp only
      split <;> rfl
    · rfl

theorem replaceSignal_mgmt (i : Fin 64) (x : Option SignalEntry) (s : State) :
    (Machine.replaceSignal i x s).mgmt = s.mgmt :=
  regulatingUpdate_mgmt _ _ _

theorem eraseEntryAt_mgmt (entry : EntryRef) (s : State) : (Machine.eraseEntryAt entry s).mgmt = s.mgmt := by
  cases entry with
  | signal i => exact replaceSignal_mgmt i none s
  | _ => rfl

theorem storeOutcome_stored {α : Type} {decoded : Option α} {reason : α → Option Reason} {put : α → State → State}
    {s t : State} {data : List Byte} (stored : storeOutcome decoded reason put s = .inr (t, data)) :
    ∃ e, decoded = some e ∧ reason e = none ∧ t = put e s ∧ data = [] := by
  unfold storeOutcome at stored
  split at stored
  · cases stored
  · split at stored <;> cases stored
    exact ⟨_, rfl, ‹_›, rfl, rfl⟩

theorem storeEntry (entry : EntryRef) {s t : State} {data : List Byte} (fits : GatesAndOperations s)
    (configure : s.ride.state = .configure) (stored : storeEntryOutcome entry s = .inr (t, data)) :
    GatesAndOperations t ∧ t.mgmt = s.mgmt := by
  cases entry with
  | watch i =>
    obtain ⟨e, -, -, rfl, -⟩ := storeOutcome_stored stored
    exact ⟨fits.storeWatch i (some e) configure, rfl⟩
  | signal i =>
    obtain ⟨e, -, -, rfl, -⟩ := storeOutcome_stored stored
    exact ⟨fits.replaceSignal i (some e) configure, replaceSignal_mgmt i (some e) s⟩
  | vote k =>
    obtain ⟨e, -, -, rfl, -⟩ := storeOutcome_stored stored
    exact ⟨fits.replaceVote k (some e) configure, rfl⟩
  | fault f =>
    obtain ⟨e, -, -, rfl, -⟩ := storeOutcome_stored stored
    exact ⟨fits.replaceFault f (some e) configure, rfl⟩
  | settings =>
    simp only [storeEntryOutcome] at stored
    split at stored <;> cases stored
    exact ⟨fits.replaceSettings _ configure, rfl⟩

/-- CONFIGURE is entered from KEY_ON: every gate closes, the store stays free (R91). -/
theorem enterConfigure {s : State} (fits : GatesAndOperations s) (keyOn : s.ride.state = .keyOn) :
    GatesAndOperations (Machine.enterConfigure s) := by
  have idle : s.store.op = none := by
    cases op : s.store.op with
    | none => rfl
    | some o =>
      have state := fits.operation.state o op
      rw [keyOn] at state
      cases work : o.work <;> simp [work, StoreWork.rideState] at state
  have hold : s.ride.hold = true := fits.hold.mpr (by simp [keyOn])
  have emptied : s.tx.emptyForwarding.response = s.tx.response := by rw [Transmitter.emptyForwarding_eq]
  rw [enterConfigure_eq]
  refine ⟨fits.gates.move .configure, fits.response.emptyForwarding emptied rfl,
    ⟨fun _ => by simp, fun o busy => ?_, fits.operation.inbox⟩, iff_of_true hold (by simp)⟩
  cases idle.symm.trans busy

/-- The work of a LEAVE CONFIGURE begins: the inbox is WORKING, the store at work. -/
theorem beginsWork {s t : State} (fits : GatesAndOperations s) (configure : s.ride.state = .configure)
    (empty : s.mgmt.inbox = .empty) {w : StoreWork} (forInbox : StoreWork.forInbox w) {x : Work}
    (tables : t.tables = s.tables) (monitors : t.monitors = s.monitors) (voteTimers : t.voteTimers = s.voteTimers)
    (ride : t.ride = s.ride) (response : t.tx.response = s.tx.response) (same : carried t.tx = carried s.tx)
    (inbox : t.mgmt.inbox = .working x) (op : t.store.op = some ⟨w, 0⟩) : GatesAndOperations t := by
  have noResponse : s.tx.response.isSome ≠ true := fun answered => by
    cases (fits.response.response.mp answered).symm.trans empty
  refine ⟨?_, ⟨?_, ?_⟩, ⟨fun none => ?_, fun o busy => ?_, ?_⟩, by rw [ride]; exact fits.hold⟩
  · rw [tables, monitors, voteTimers, ride]; exact fits.gates
  · rw [response, inbox]; exact iff_of_false noResponse (fun at_ => by cases at_)
  · exact (fits.response.ofCarried response same).attempt
  · cases op.symm.trans none
  · cases op.symm.trans busy
    rw [ride, configure]
    rcases forInbox with rfl | rfl <;> rfl
  · exact iff_of_true ⟨x, inbox⟩ ⟨_, op, forInbox⟩

theorem doCommit {s : State} (fits : GatesAndOperations s) (configure : s.ride.state = .configure)
    (empty : s.mgmt.inbox = .empty) : GatesAndOperations (Machine.doCommit s) := by
  unfold Machine.doCommit
  split
  · exact fits.respond _ _ _ (by simp [empty])
  · extract_lets removed
    rw [beginTablesWrite_eq]
    have frame := removeRecords_frame (orphanRecord s) (beginWork (.commit removed) s)
    have same := removeRecords_carried (orphanRecord s) (beginWork (.commit removed) s)
    exact fits.beginsWork configure empty (.inl rfl) frame.tables frame.monitors frame.voteTimers frame.ride
      frame.response same (by rw [frame.mgmt]; rfl) rfl

theorem carryOut (r : Request) {s : State} (fits : GatesAndOperations s) (permitted : Request.fits s.ride.state r)
    (empty : s.mgmt.inbox = .empty) : GatesAndOperations (Machine.carryOut r s) := by
  have answer (c : Byte) (r : Result) (d : List Byte) : GatesAndOperations (Machine.respond c r d s) :=
    fits.respond c r d (by simp [empty])
  have filled (b : List Host.Cell) (c : Byte) (r : Result) (d : List Byte) :
      GatesAndOperations (Machine.respond c r d (s.setMgmt { s.mgmt with buffer := b })) :=
    respond c r d ⟨fits.gates, fits.response, fits.operation, fits.hold⟩ (by simp [empty])
  cases r with
  | status => exact answer _ _ _
  | readFault f => exact answer _ _ _
  | readSignal i =>
    simp only [Machine.carryOut, doReadSignal]
    split <;> exact answer _ _ _
  | peekMonitor w =>
    simp only [Machine.carryOut, doPeekMonitor]
    split <;> exact answer _ _ _
  | fetchRecord k =>
    simp only [Machine.carryOut, doFetchRecord]
    split
    · exact answer _ _ _
    · exact filled _ _ _ _
  | readBuffer o => exact answer _ _ _
  | writeBuffer o data => exact filled _ _ _ _
  | clearRecords mask =>
    have frame := removeRecords_frame (clearsRecord mask s) s
    exact (ofFrame frame (removeRecords_carried _ s) fits).respond _ _ _ (by simp [frame.mgmt, empty])
  | setNoticeMask level enables =>
    refine (fits.setTx (t := { s.tx with noticeLevel := level, enables := enables }) ?_).respond _ _ _ (by simp [empty])
    exact fits.response.ofCarried rfl rfl
  | enterConfigure =>
    simp only [Machine.carryOut, doEnterConfigure]
    split
    · exact (fits.enterConfigure permitted).respond _ _ _ (by rw [enterConfigure_eq]; simp [empty])
    · exact answer _ _ _
  | leaveConfigure commit =>
    simp only [Machine.carryOut, doLeaveConfigure]
    split
    · exact fits.doCommit permitted empty
    · exact fits.beginsWork (x := .abandon) permitted empty (.inr rfl) rfl rfl rfl rfl rfl rfl rfl rfl
  | storeEntry e =>
    simp only [Machine.carryOut, doStoreEntry]
    split
    · exact answer _ _ _
    · obtain ⟨kept, mgmt⟩ := fits.storeEntry e permitted ‹_›
      exact kept.respond _ _ _ (by simp [mgmt, empty])
  | fetchEntry e =>
    simp only [Machine.carryOut, doFetchEntry]
    split
    · exact answer _ _ _
    · exact filled _ _ _ _
  | eraseEntry e =>
    exact (fits.eraseEntryAt e permitted).respond _ _ _ (by simp [eraseEntryAt_mgmt, empty])

/-! ### Attempts and ticks -/

/-- An attempt ends: none is in progress. -/
theorem endAttempt (count : Nat) {s : State} (fits : GatesAndOperations s) :
    GatesAndOperations (Machine.endAttempt count s) :=
  fits.setTx ⟨fits.response.response, fun _ attempt => by cases attempt⟩

theorem completeItem {a : Attempt} {count : Nat} {s : State} (attempt : s.tx.attempt = some a)
    (fits : GatesAndOperations s) : GatesAndOperations (Machine.completeItem a (Machine.endAttempt count s)) := by
  have ended := fits.endAttempt count
  have keeps (t : Transmitter) (response : t.response = (Machine.endAttempt count s).tx.response)
      (none : t.attempt = none) : GatesAndOperations ((Machine.endAttempt count s).setTx t) :=
    ended.setTx ⟨by rw [response]; exact ended.response.response, fun _ some => by cases none.symm.trans some⟩
  unfold Machine.completeItem
  split
  · have answered := fits.response.response.mp (fits.response.attempt a attempt ‹_›)
    have notAtWork := fits.operation.inbox
    refine ⟨ended.gates, ⟨by simp, fun _ none => by cases none⟩,
      ⟨ended.operation.idle, ended.operation.state, ?_⟩, ended.hold⟩
    rw [answered] at notAtWork
    refine iff_of_false (fun ⟨w, at_⟩ => by cases at_) fun work => ?_
    obtain ⟨w, at_⟩ := notAtWork.mpr work
    cases at_
  · split
    · exact ended
    · exact keeps _ rfl rfl
  · exact keeps _ rfl rfl
  · exact keeps _ rfl rfl
  · split
    · exact ended
    · exact keeps _ rfl rfl
  · exact ended

theorem attemptFails {s : State} (fits : GatesAndOperations s) : GatesAndOperations (Machine.attemptFails s) := by
  unfold Machine.attemptFails
  extract_lets u
  have ended : GatesAndOperations u := fits.endAttempt _
  split
  · exact stable.sample _ _ (ended.setTx (ended.response.ofCarried rfl rfl))
  · exact ended.selector

theorem beaconExpires {s : State} (fits : GatesAndOperations s) : GatesAndOperations (Machine.beaconExpires s) :=
  selector (fits.setTx (fits.response.ofCarried (s.tx.markResend_attemptOnly .beacon).response
    (carried_markResend s.tx .beacon)))

theorem tickHeldTimers_running (s : State) (w : Fin 32) :
    ((tickHeldTimers s).monitors.at w).running = (s.monitors.at w).running := by
  unfold tickHeldTimers
  split
  · rfl
  · simp only [State.setRide_monitors, State.setLamps_monitors, State.setVoteTimers_monitors,
      State.setMonitors_monitors, tickMonitors, Table.at_build]
    split
    · rfl
    · unfold Monitor.tick
      split <;> rfl

theorem tickHeldTimers_votes (s : State) (k : Fin 4) :
    ((tickHeldTimers s).voteTimers.at k).isSome = (s.voteTimers.at k).isSome := by
  unfold tickHeldTimers
  split
  · rfl
  · simp only [State.setRide_voteTimers, State.setLamps_voteTimers, State.setVoteTimers_voteTimers, Table.at_build]
    cases s.voteTimers.at k <;> rfl

theorem tickTimers {s : State} (fits : GatesAndOperations s) : GatesAndOperations (Machine.tickTimers s) := by
  have held : (tickHeldTimers s).tx = s.tx ∧ (tickHeldTimers s).tables = s.tables ∧
      (tickHeldTimers s).ride.state = s.ride.state ∧ (tickHeldTimers s).ride.hold = s.ride.hold ∧
      (tickHeldTimers s).store = s.store ∧ (tickHeldTimers s).mgmt = s.mgmt := by
    unfold tickHeldTimers
    split <;> simp
  obtain ⟨tx, tables, state, hold, store, mgmt⟩ := held
  unfold Machine.tickTimers tickFreeTimers
  refine ⟨⟨fun w => ?_, fun k => ?_⟩, ⟨?_, ?_⟩, ⟨?_, ?_, ?_⟩, ?_⟩ <;>
    simp only [State.setRide_tx, State.setStore_tx, State.setTx_tx, State.setRide_monitors, State.setStore_monitors,
      State.setTx_monitors, State.setRide_voteTimers, State.setStore_voteTimers, State.setTx_voteTimers,
      State.setRide_tables, State.setStore_tables, State.setTx_tables, State.setRide_ride, State.setRide_mgmt,
      State.setStore_mgmt, State.setTx_mgmt, State.setRide_store, State.setStore_store, tickHeldTimers_running,
      tickHeldTimers_votes, tx, tables, state, hold, store, mgmt]
  · exact fits.gates.monitors w
  · exact fits.gates.votes k
  · exact fits.response.response
  · exact fits.response.attempt
  · intro idle
    exact fits.operation.idle (by simpa using idle)
  · intro o busy
    obtain ⟨p, before, rfl⟩ := Option.map_eq_some_iff.mp busy
    exact fits.operation.state p before
  · rw [fits.operation.inbox]
    cases s.store.op <;> simp [StoreOp.tick]
  · exact fits.hold

theorem ofReset {s : State} (gates : GatesFit s.tables s.ride.state s.monitors s.voteTimers)
    (asleep : s.ride.state = .asleep) (hold : s.ride.hold = false) (idle : s.store.op = none)
    (empty : s.mgmt.inbox = .empty) (tx : s.tx = .initial) : GatesAndOperations s := by
  refine ⟨gates, ?_, ⟨fun _ => by simp [asleep], fun o busy => ?_, ?_⟩, by simp [asleep, hold]⟩
  · rw [tx, empty]
    exact ⟨by simp [Transmitter.initial], fun _ attempt => by cases attempt⟩
  · cases idle.symm.trans busy
  · simp [idle, empty]

end GatesAndOperations

/-- Settles O56: the gates move with the ride state alone, and each store operation, response and change of HOLD
begins and ends together with the ride state or the inbox that it fits. -/
theorem stepKeepsGates : Obligations.StepKeepsGates := by
  intro s t operations gates stepped
  obtain ⟨rest, effect⟩ := step_effect stepped
  have fits := (gatesAndOperations_iff s).mp ⟨operations, gates⟩
  rw [gatesAndOperations_iff]
  replace fits : GatesAndOperations (s.setPending rest) := ⟨fits.gates, fits.response, fits.operation, fits.hold⟩
  clear operations gates stepped
  generalize s.setPending rest = s at fits effect
  have stable := GatesAndOperations.stable
  cases effect with
  | idle => exact fits
  | tick waiting _ =>
    have ticked := fits.tickTimers
    exact ⟨ticked.gates, ticked.response, ticked.operation, ticked.hold⟩
  | powerOnReset | leaveReset _ _ =>
    refine .ofReset (.of_stopped rfl (fun w => ?_) (fun k => ?_)) rfl rfl rfl rfl rfl
    · change ((Table.fill 32 Monitor.initial).at w).running = false
      rw [Table.at_fill]; rfl
    · change (Table.fill 4 none).at k = none
      rw [Table.at_fill]
  | frame id _ short => exact stable.takeFrame id short fits
  | busError _ => exact stable.takeBusError fits
  | silence _ => exact stable.silenceExpires fits
  | monitor timed _ => exact (stable.monitorExpires timed fits).selector
  | period timed _ => exact (stable.periodExpires timed fits).selector
  | vote rule due => exact (stable.voteExpires rule due fits).selector
  | pins _ => exact ⟨fits.gates, fits.response, fits.operation, fits.hold⟩
  | ignChange level pins =>
    exact (GatesAndOperations.ignChanged level
      (s := (s.setPins pins).setRide { s.ride with ign := level, ignCount := 0 })
      ⟨fits.gates, fits.response, fits.operation, fits.hold⟩).selector
  | bandChange new pins =>
    obtain ⟨c, l, changed⟩ := bandChanged_eq new (s.setPins pins)
    rw [changed]
    exact ⟨fits.gates, fits.response, fits.operation, fits.hold⟩
  | load mayComplete => exact fits.loadCompletes mayComplete
  | memoryWrite mayComplete =>
    obtain ⟨state, -⟩ := fits.busy mayComplete
    obtain ⟨monitors, votes⟩ := fits.gates.stopped (by rw [state]; rfl)
    rw [memoryWriteCompletes, finishMemoryWrite_eq]
    exact .finishClosing rfl monitors votes
  | tablesWrite mayComplete =>
    rw [finishTablesWrite_eq]
    exact .endOfWork rfl (fits.hold_of_busy mayComplete) fits.gates
  | reload mayComplete =>
    obtain ⟨state, -⟩ := fits.busy mayComplete
    obtain ⟨store, ride, -, -⟩ := GatesAndOperations.loadTables_rest (endOp s)
    have gates := GatesAndOperations.loadTables_gates (s := endOp s)
      (show s.ride.state.isRunning = false by rw [state]; rfl) fits.gates
    rw [← ride] at gates
    exact .endOfWork (by rw [store]; rfl) (by rw [ride]; exact fits.hold_of_busy mayComplete) gates
  | tail _ | ignition _ | proveOut _ | stretch _ | flash _ =>
    exact ⟨fits.gates, fits.response, fits.operation, fits.hold⟩
  | success attempt => exact (fits.completeItem attempt).selector
  | failure _ => exact fits.attemptFails
  | outbid _ => exact (fits.endAttempt _).selector
  | offlineEnd _ =>
    exact GatesAndOperations.selector (stable.sample _ _ (fits.setTx (fits.response.ofCarried rfl rfl)))
  | beacon _ => exact fits.beaconExpires
  | answer c r u taken =>
    obtain ⟨-, empty⟩ := Bool.and_eq_true_iff.mp taken
    rw [beq_iff_eq] at empty
    exact (GatesAndOperations.respond c r [] (s := s.setFreeUses u)
      ⟨fits.gates, fits.response, fits.operation, fits.hold⟩ (by simp [empty])).selector
  | request taken permitted =>
    obtain ⟨-, empty⟩ := Bool.and_eq_true_iff.mp taken
    rw [beq_iff_eq] at empty
    exact (fits.carryOut _ permitted empty).selector

end Sys2Proof.Proofs
end

section
/-!
PROOFS. Entries within their values: those that images, region contents and clamped settings give (R8, R36, R55, R93,
R114, R177, R186).
-/

namespace Sys2Proof.Proofs

open Sys2Proof.Machine

/-! ### Images -/

/-- A value that `require` lets through satisfies its condition. -/
theorem require_eq_some_iff {α : Type} {c : Bool} {x y : α} : require c x = some y ↔ c = true ∧ x = y := by
  unfold require
  split <;> simp [*]

theorem watchEntry_legal_of_image {image : List Byte} {e : WatchEntry} (decoded : WatchEntry.ofImage image = some e) :
    e.legal = true := by
  unfold WatchEntry.ofImage at decoded
  split at decoded
  · simp only [Option.bind_eq_bind, Option.bind_eq_some_iff, require_eq_some_iff, Bool.and_eq_true] at decoded
    obtain ⟨_, -, _, -, _, -, ⟨-, legal⟩, rfl⟩ := decoded
    exact legal
  · cases decoded

theorem signalEntry_legal_of_image {image : List Byte} {e : SignalEntry}
    (decoded : SignalEntry.ofImage image = some e) : e.legal = true := by
  unfold SignalEntry.ofImage at decoded
  split at decoded
  · simp only [Option.bind_eq_bind, Option.bind_eq_some_iff, require_eq_some_iff] at decoded
    obtain ⟨_, -, _, -, _, -, legal, rfl⟩ := decoded
    exact legal
  · cases decoded

theorem voteRule_legal_of_image {image : List Byte} {e : VoteRule} (decoded : VoteRule.ofImage image = some e) :
    e.legal = true := by
  unfold VoteRule.ofImage at decoded
  split at decoded
  · simp only [Option.bind_eq_bind, Option.bind_eq_some_iff, require_eq_some_iff] at decoded
    obtain ⟨_, -, _, -, _, -, _, -, legal, rfl⟩ := decoded
    exact legal
  · cases decoded

theorem faultDef_legal_of_image {image : List Byte} {e : FaultDef} (decoded : FaultDef.ofImage image = some e) :
    e.legal = true := by
  unfold FaultDef.ofImage at decoded
  split at decoded
  · simp only [Option.bind_eq_bind, Option.bind_eq_some_iff, require_eq_some_iff, Bool.and_eq_true] at decoded
    obtain ⟨_, -, _, -, _, -, _, -, ⟨-, legal⟩, rfl⟩ := decoded
    exact legal
  · cases decoded

/-! ### Settings -/

theorem clamp_of_mem {lo hi n : Nat} (low : lo ≤ n) (high : n ≤ hi) : clamp lo hi n = n := by
  rw [clamp, if_neg (by omega), if_neg (by omega)]

theorem clamp_mem {lo hi : Nat} (n : Nat) (order : lo ≤ hi) : lo ≤ clamp lo hi n ∧ clamp lo hi n ≤ hi := by
  unfold clamp
  split_ifs <;> omega

theorem clamp_clamp {lo hi : Nat} (n : Nat) (order : lo ≤ hi) : clamp lo hi (clamp lo hi n) = clamp lo hi n :=
  clamp_of_mem (clamp_mem n order).1 (clamp_mem n order).2

theorem clampBeacon_le (n : Nat) : clampBeacon n ≤ 5000 := by
  unfold clampBeacon
  split_ifs <;> omega

theorem clampBeacon_clampBeacon (n : Nat) : clampBeacon (clampBeacon n) = clampBeacon n := by
  unfold clampBeacon
  split_ifs <;> omega

theorem clampSpeed_clampSpeed (v : Int) : clampSpeed (clampSpeed v) = clampSpeed v := by
  unfold clampSpeed
  split_ifs <;> omega

theorem clamped_clamped (e : Settings) : e.clamped.clamped = e.clamped := by
  simp [Settings.clamped, clamp_clamp, clampBeacon_clampBeacon, clampSpeed_clampSpeed]

theorem clamped_default : Settings.default.clamped = Settings.default := by decide

/-- The settings' greatest values (section 12.4, R177). -/
structure SettingsFit (e : Settings) : Prop where
  tail : ∀ cls, e.tail cls ≤ 10000
  ignitionBlanking : e.ignitionBlanking ≤ 10000
  silenceTime : e.silenceTime ≤ 2000
  qualifyRun : e.qualifyRun ≤ 600
  proveOutTime : e.proveOutTime ≤ 5000
  lampStretch : e.lampStretch ≤ 5000
  beaconPeriod : e.beaconPeriod ≤ 5000
  noticeLevel : e.noticeLevel ≤ 4

theorem settingsFit_clamped (e : Settings) : SettingsFit e.clamped where
  tail cls := by cases cls <;> exact (clamp_mem (lo := 0) (hi := 10000) _ (by decide)).2
  ignitionBlanking := (clamp_mem (lo := 0) (hi := 10000) _ (by decide)).2
  silenceTime := (clamp_mem (lo := 20) (hi := 2000) _ (by decide)).2
  qualifyRun := (clamp_mem (lo := 1) (hi := 600) _ (by decide)).2
  proveOutTime := (clamp_mem (lo := 1000) (hi := 5000) _ (by decide)).2
  lampStretch := (clamp_mem (lo := 0) (hi := 5000) _ (by decide)).2
  beaconPeriod := clampBeacon_le _
  noticeLevel := (clamp_mem (lo := 0) (hi := 4) _ (by decide)).2

theorem loadedSettings_clamped (image : List Byte) : (loadedSettings image).clamped = loadedSettings image := by
  unfold loadedSettings
  split
  · exact clamped_default
  · split
    · assumption
    · exact clamped_clamped _

/-! ### Tables -/

/-- What `tablesLegal` says. -/
structure TablesFit (t : Tables) : Prop where
  watch : ∀ w e, t.watch.at w = some e → e.legal = true
  signals : ∀ i e, t.signals.at i = some e → e.legal = true
  votes : ∀ k e, t.votes.at k = some e → e.legal = true
  faults : ∀ f e, t.faults.at f = some e → e.legal = true
  settings : t.settings.clamped = t.settings

theorem tablesLegal_iff (t : Tables) : tablesLegal t = true ↔ TablesFit t := by
  simp only [tablesLegal, Bool.and_eq_true, everyIndex_iff, wherePresent_iff, beq_iff_eq]
  exact ⟨fun ⟨⟨⟨⟨w, i⟩, k⟩, f⟩, s⟩ => ⟨w, i, k, f, s⟩, fun ⟨w, i, k, f, s⟩ => ⟨⟨⟨⟨w, i⟩, k⟩, f⟩, s⟩⟩

/-- A slot of a region holds no entry, or one within its values, whatever its bytes. -/
theorem slotEntry_legal {α : Type} {ofImage : List Byte → Option α} {legal : α → Bool}
    {free : List Byte → Option α} (decodes : ∀ {image e}, ofImage image = some e → legal e = true)
    {slot : List Byte} {e : α} (held : slotEntry ofImage legal free slot = some e) : legal e = true := by
  have chosen {o : Option α} (held : freeEntry legal o = some e) : legal e = true := by
    unfold freeEntry at held
    split at held
    · cases held
    · rw [Option.ite_none_right_eq_some, Option.some.injEq] at held
      obtain ⟨fits, rfl⟩ := held
      exact fits
  unfold slotEntry at held
  split at held
  · exact chosen held
  · split at held
    · cases held
    · split at held
      · split at held
        · cases held
          exact decodes ‹_›
        · exact chosen held
      · exact chosen held

namespace TablesFit

theorem settingsFit {t : Tables} (fits : TablesFit t) : SettingsFit t.settings :=
  fits.settings ▸ settingsFit_clamped t.settings

theorem empty : TablesFit Tables.empty where
  watch w e held := by simp [Tables.empty, Table.at_fill] at held
  signals i e held := by simp [Tables.empty, Table.at_fill] at held
  votes k e held := by simp [Tables.empty, Table.at_fill] at held
  faults f e held := by simp [Tables.empty, Table.at_fill] at held
  settings := clamped_default

/-- The tables that any region content loads as lie within their values (logs 10, 24). -/
theorem ofContent (content : List Byte) : TablesFit (Tables.ofContent content) where
  watch w e held := by
    simp only [Tables.ofContent, tableOf, Table.at_build] at held
    exact slotEntry_legal watchEntry_legal_of_image held
  signals i e held := by
    simp only [Tables.ofContent, tableOf, Table.at_build] at held
    exact slotEntry_legal signalEntry_legal_of_image held
  votes k e held := by
    simp only [Tables.ofContent, tableOf, Table.at_build] at held
    exact slotEntry_legal voteRule_legal_of_image held
  faults f e held := by
    simp only [Tables.ofContent, tableOf, Table.at_build] at held
    exact slotEntry_legal faultDef_legal_of_image held
  settings := loadedSettings_clamped _

theorem loadTables (s : State) : TablesFit (loadTables s).tables := by
  have loaded := loadTables_loaded s
  by_cases lost : tablesLost s
  · rw [(loaded.lost lost).1]; exact empty
  · rw [(loaded.valid lost).1]; exact ofContent _

/-- A table with one entry replaced by a legal one, or by none. -/
theorem at_put_legal {α : Type} {n : Nat} {legal : α → Bool} {t : Table (Option α) n} {i : Fin n} {x : Option α}
    (old : ∀ j e, t.at j = some e → legal e = true) (new : ∀ e, x = some e → legal e = true) (j : Fin n) (e : α)
    (held : (t.put i x).at j = some e) : legal e = true := by
  rw [Table.at_put] at held
  split at held
  · exact new e held
  · exact old j e held

theorem putWatch {t : Tables} (fits : TablesFit t) (i : Fin 32) {x : Option WatchEntry}
    (legal : ∀ e, x = some e → e.legal = true) : TablesFit { t with watch := t.watch.put i x } :=
  ⟨at_put_legal fits.watch legal, fits.signals, fits.votes, fits.faults, fits.settings⟩

theorem putSignal {t : Tables} (fits : TablesFit t) (i : Fin 64) {x : Option SignalEntry}
    (legal : ∀ e, x = some e → e.legal = true) : TablesFit { t with signals := t.signals.put i x } :=
  ⟨fits.watch, at_put_legal fits.signals legal, fits.votes, fits.faults, fits.settings⟩

theorem putVote {t : Tables} (fits : TablesFit t) (k : Fin 4) {x : Option VoteRule}
    (legal : ∀ e, x = some e → e.legal = true) : TablesFit { t with votes := t.votes.put k x } :=
  ⟨fits.watch, fits.signals, at_put_legal fits.votes legal, fits.faults, fits.settings⟩

theorem putFault {t : Tables} (fits : TablesFit t) (f : Fin 64) {x : Option FaultDef}
    (legal : ∀ e, x = some e → e.legal = true) : TablesFit { t with faults := t.faults.put f x } :=
  ⟨fits.watch, fits.signals, fits.votes, at_put_legal fits.faults legal, fits.settings⟩

theorem putSettings {t : Tables} (fits : TablesFit t) {e : Settings} (clamped : e.clamped = e) :
    TablesFit { t with settings := e } :=
  ⟨fits.watch, fits.signals, fits.votes, fits.faults, clamped⟩

end TablesFit

/-! ### Records -/

theorem freeRecords_legal (n : Nat) (content : List Byte) : recordsLegal n (freeRecords n content) = true := by
  unfold freeRecords
  split
  · assumption
  · rfl

theorem loadedRecords_legal (n count : Nat) (slots content : List Byte) :
    recordsLegal n (loadedRecords n count slots content) = true := by
  unfold loadedRecords
  split
  · exact freeRecords_legal n content
  · split
    · assumption
    · exact freeRecords_legal n content

theorem u16_lt (lo hi : Byte) : u16 lo hi < 65536 := by
  have := lo.isLt
  have := hi.isLt
  unfold u16
  omega

/-- The ride number and the records that any region content loads as lie within their values (log 10). -/
theorem memoryOfContent_legal (content : List Byte) : (memoryOfContent content).1 ≤ 65535 ∧
    recordsLegal (memoryOfContent content).1 (memoryOfContent content).2 = true := by
  unfold memoryOfContent
  split
  · exact ⟨Nat.le_of_lt_succ (u16_lt _ _), loadedRecords_legal _ _ _ _⟩
  · exact ⟨by simp, rfl⟩

end Sys2Proof.Proofs
end

section
/-!
PROOFS. What a sample does to the verdicts, the records, the notices and the lamps (R98 to R106, R117 to R124).
-/

namespace Sys2Proof.Proofs

open Sys2Proof.Machine

/-! ### Samples -/

/-- A sample is discarded, or counted for a fault whose definition names its source (R98). -/
theorem takeSample_cases (src : Source) (x : Finding) (s : State) : takeSample src x s = s ∨
    ∃ f d, s.ride.state.isRunning = true ∧ s.tables.faults.at f = some d ∧
      takeSample src x s = countSample f d x s := by
  unfold takeSample
  split
  · exact .inl rfl
  next running =>
    split
    · exact .inl rfl
    · split
      · exact .inl rfl
      next f _ _ d defined =>
        split
        · exact .inl rfl
        · exact .inr ⟨f, d, by simpa using running, defined, rfl⟩

/-- A FAILING verdict stays FAILING or becomes PASSING (R102). -/
theorem nextVerdict_of_failing (d : FaultDef) (c : Int) :
    nextVerdict d c .failing = .failing ∨ nextVerdict d c .failing = .passing := by
  unfold nextVerdict
  split_ifs with _ _ untested
  · exact .inl rfl
  · exact .inr rfl
  · cases untested
  · exact .inl rfl

/-- The three things a counted sample can do (R103 to R105). -/
inductive Counted (f : Fin 64) (d : FaultDef) (x : Finding) (s : State) : State → Prop
  | entry (failing : (nextRuntime d x (s.faultRt.at f)).verdict = .failing)
      (before : (s.faultRt.at f).verdict ≠ .failing) :
      Counted f d x s (enterFailing f d (setFaultRt f (nextRuntime d x (s.faultRt.at f)) s))
  | heals (passing : (nextRuntime d x (s.faultRt.at f)).verdict = .passing)
      (before : (s.faultRt.at f).verdict = .failing) :
      Counted f d x s (returnToPassing f (setFaultRt f (nextRuntime d x (s.faultRt.at f)) s))
  | moves (stays : (nextRuntime d x (s.faultRt.at f)).verdict = .failing ↔ (s.faultRt.at f).verdict = .failing) :
      Counted f d x s (setFaultRt f (nextRuntime d x (s.faultRt.at f)) s)

theorem countSample_counted (f : Fin 64) (d : FaultDef) (x : Finding) (s : State) :
    Counted f d x s (countSample f d x s) := by
  have verdict : (nextRuntime d x (s.faultRt.at f)).verdict =
      nextVerdict d (stepCounter d x (s.faultRt.at f).counter) (s.faultRt.at f).verdict := rfl
  have flag : nextRuntime d x (s.faultRt.at f) = ⟨stepCounter d x (s.faultRt.at f).counter,
      nextVerdict d (stepCounter d x (s.faultRt.at f).counter) (s.faultRt.at f).verdict,
      (s.faultRt.at f).failed ||
        (nextVerdict d (stepCounter d x (s.faultRt.at f).counter) (s.faultRt.at f).verdict == .failing &&
          (s.faultRt.at f).verdict != .failing)⟩ := rfl
  unfold countSample
  extract_lets rt c v
  change (nextRuntime d x (s.faultRt.at f)).verdict = v at verdict
  change nextRuntime d x (s.faultRt.at f) = ⟨c, v, rt.failed || (v == .failing && rt.verdict != .failing)⟩ at flag
  by_cases entry : v = .failing ∧ rt.verdict ≠ .failing
  · have rises : (⟨c, v, true⟩ : FaultRuntime) = nextRuntime d x (s.faultRt.at f) := by
      rw [flag]
      simp [entry]
    rw [if_pos entry, rises]
    exact .entry (verdict.trans entry.1) entry.2
  · have stays : (⟨c, v, rt.failed⟩ : FaultRuntime) = nextRuntime d x (s.faultRt.at f) := by
      have flagStays : (v == .failing && rt.verdict != .failing) = false := by simpa using entry
      rw [flag, flagStays, Bool.or_false]
    rw [if_neg entry, stays]
    split
    next passes => exact .heals (verdict.trans passes.1) passes.2
    next notPassing =>
      refine .moves ?_
      rw [verdict]
      constructor
      · intro failing
        by_contra before
        exact entry ⟨failing, before⟩
      · intro before
        have : v = .failing ∨ v = .passing := by
          simp only [v, rt, before]
          exact nextVerdict_of_failing d c
        exact this.resolve_right fun passing => notPassing ⟨passing, before⟩

/-! ### The hand-offs -/

@[simp] theorem changeRecords_lamps (rs : List FaultRecord) (s : State) : (changeRecords rs s).lamps = s.lamps := rfl

@[simp] theorem setNotice_lamps (f : Fin 64) (s : State) : (setNotice f s).lamps = s.lamps := rfl

@[simp] theorem setNotice_memory (f : Fin 64) (s : State) : (setNotice f s).memory = s.memory := rfl

@[simp] theorem updateLamps_memory (s : State) : (updateLamps s).memory = s.memory := rfl

@[simp] theorem updateLamps_tx (s : State) : (updateLamps s).tx = s.tx := rfl

@[simp] theorem memoryEnterFailing_lamps (f : Fin 64) (d : FaultDef) (s : State) :
    (memoryEnterFailing f d s).lamps = s.lamps := by
  unfold memoryEnterFailing createRecord
  split
  · rfl
  · split
    · rfl
    · split <;> rfl

/-- The Lamp Driver, told, sets the lamps alone, by the records and verdicts as the event leaves them (R141). -/
theorem updateLamps_lamps_eq (s : State) :
    (updateLamps s).lamps = (updateLamps { updateLamps s with lamps := s.lamps }).lamps := rfl

/-- What an entry into FAILING can do to the memory (R117, R118, R120 to R124). -/
inductive Recorded (s : State) (f : Fin 64) (d : FaultDef) : FaultMemory → Prop
  | again (held : recordOf s f ≠ none) : Recorded s f d { s.memory with
      records := s.memory.records.map fun r => if r.fault = f then r.failAgain s.ride.rideNumber else r
      dirty := true }
  | created (absent : recordOf s f = none) (room : s.memory.records.length < 20) : Recorded s f d { s.memory with
      records := s.memory.records ++ [newRecord s f d]
      dirty := true }
  | full (absent : recordOf s f = none) (none : bestVictim s d.level s.memory.records = none) :
      Recorded s f d { s.memory with full := true }
  | displaced {v : FaultRecord} (absent : recordOf s f = none)
      (victim : bestVictim s d.level s.memory.records = some v) : Recorded s f d { s.memory with
      records := withoutFault v.fault s.memory.records ++ [newRecord s f d]
      dirty := true }

theorem memoryEnterFailing_recorded (s : State) (f : Fin 64) (d : FaultDef) :
    Recorded s f d (memoryEnterFailing f d s).memory := by
  unfold memoryEnterFailing
  split
  next r held => exact .again (by simp [held])
  next absent =>
    unfold createRecord
    split
    next room => exact .created absent room
    · split
      next none => exact .full absent none
      next v victim => exact .displaced absent victim

theorem recordOf_eq_none_iff {s : State} {f : Fin 64} :
    recordOf s f = none ↔ ∀ r ∈ s.memory.records, r.fault ≠ f := by
  simp [recordOf]

/-! ### Verdicts, flags and notices -/

/-- The verdict follows the counter, by the thresholds of a legal definition (R102). -/
theorem nextVerdict_spec {d : FaultDef} (legal : d.legal = true) (c : Int) (v : Verdict) :
    (c ≥ d.confirm → nextVerdict d c v = .failing) ∧ (c ≤ d.heal → nextVerdict d c v = .passing) ∧
    (d.heal < c → c < d.confirm → nextVerdict d c v = if v = .untested then .undecided else v) := by
  have order : d.heal < d.confirm := by
    simp only [FaultDef.legal, Bool.and_eq_true, decide_eq_true_eq] at legal
    omega
  unfold nextVerdict
  refine ⟨fun high => if_pos high, fun low => ?_, fun low high => ?_⟩
  · rw [if_neg (by omega), if_pos low]
  · rw [if_neg (by omega), if_neg (by omega)]

/-- Settles O21: the runtime is `nextRuntime`'s, and the two hand-offs of R104 and R105 end with the notice and the
Lamp Driver told. -/
theorem sampleMovesVerdict : Obligations.SampleMovesVerdict := by
  intro s src x f d running named defined unblanked legal t before after
  have counted : t = countSample f d x s := takeSample_eq_countSample running named defined unblanked x
  have runtime : after = nextRuntime d x before := by
    simp only [after, counted, countSample_faultRt, Table.at_put_self, before]
  have effect : Counted f d x s t := counted ▸ countSample_counted f d x s
  clear_value after t
  obtain ⟨high, low, between⟩ := nextVerdict_spec legal (stepCounter d x before.counter) before.verdict
  refine ⟨?_, ?_, ?_, ?_, ?_, ?_⟩
  · rw [runtime]; exact high
  · rw [runtime]; exact low
  · rw [runtime]; exact between
  · rw [runtime]; rfl
  · intro changed failing
    rw [runtime] at changed failing
    cases effect with
    | entry failing before =>
      refine ⟨by simp [enterFailing, setNotice_at], ?_⟩
      rw [enterFailing, updateLamps_lamps_eq, setNotice_lamps, memoryEnterFailing_lamps]
      rfl
    | heals passing before => exact ⟨by simp [returnToPassing, setNotice_at], rfl⟩
    | moves stays =>
      rcases failing with failing | failing
      · exact absurd (failing.trans (stays.mp failing).symm) changed
      · exact absurd ((stays.mpr failing).trans failing.symm) changed
  · intro unmoved
    rw [runtime] at unmoved
    cases effect with
    | entry failing before =>
      rcases unmoved with same | ⟨neither, -⟩
      · exact absurd (same.symm.trans failing) before
      · exact absurd failing neither
    | heals passing before =>
      rcases unmoved with same | ⟨-, neither⟩
      · cases passing.symm.trans (same.trans before)
      · exact absurd before neither
    | moves stays => rfl

/-- Settles O22: each of R98's reasons to discard a sample is a branch of `takeSample` that answers the state. -/
theorem sampleDiscarded : Obligations.SampleDiscarded := by
  intro s src x
  refine ⟨fun stopped => by simp [takeSample, stopped], fun unfed => ?_, fun f d named defined blanked => ?_⟩
  · have unnamed : faultNaming s src = none := by
      simp only [faultNaming, List.find?_eq_none, List.mem_finRange, true_imp_iff]
      intro f
      cases defined : s.tables.faults.at f with
      | none => simp
      | some d => simpa using unfed f d defined
    simp [takeSample, unnamed]
  · simp [takeSample, named, defined, blanked]

/-! ### Records -/

/-- A sample that brings a fault into FAILING hands it to the Fault Memory (R104). -/
theorem takeSample_enters {s : State} {src : Source} {f : Fin 64} {d : FaultDef}
    (running : s.ride.state.isRunning = true) (named : faultNaming s src = some f)
    (defined : s.tables.faults.at f = some d) (unblanked : blanks d.mask s.ride.classes = false)
    (before : (s.faultRt.at f).verdict ≠ .failing)
    (confirms : (d.confirm : Int) ≤ failStep d (s.faultRt.at f).counter) :
    takeSample src .fail s =
      enterFailing f d (setFaultRt f (nextRuntime d .fail (s.faultRt.at f)) s) := by
  have failing : (nextRuntime d .fail (s.faultRt.at f)).verdict = .failing := if_pos confirms
  have effect := countSample_counted f d .fail s
  rw [takeSample_eq_countSample running named defined unblanked]
  generalize countSample f d .fail s = t at effect
  cases effect with
  | entry _ _ => rfl
  | heals passing _ => cases passing.symm.trans failing
  | moves stays => exact absurd (stays.mp failing) before

@[simp] theorem enterFailing_memory (f : Fin 64) (d : FaultDef) (s : State) :
    (enterFailing f d s).memory = (memoryEnterFailing f d s).memory := rfl

theorem enterFailing_notice (f g : Fin 64) (d : FaultDef) (s : State) :
    (enterFailing f d s).tx.notices.at g = ((memoryEnterFailing f d s).tx.notices.at g || f == g) := by
  simp [enterFailing, setNotice_at]

theorem memoryEnterFailing_of_room {f : Fin 64} {d : FaultDef} {s : State} (absent : recordOf s f = none)
    (room : s.memory.records.length < 20) : memoryEnterFailing f d s =
      setNotice f (changeRecords (s.memory.records ++ [newRecord s f d]) s) := by
  unfold memoryEnterFailing createRecord
  rw [absent]
  exact if_pos room

theorem memoryEnterFailing_of_record {f : Fin 64} {d : FaultDef} {s : State} {r : FaultRecord}
    (held : recordOf s f = some r) : memoryEnterFailing f d s =
      setNotice f (changeRecords
        (s.memory.records.map fun r => if r.fault = f then r.failAgain s.ride.rideNumber else r) s) := by
  unfold memoryEnterFailing
  rw [held]

/-- The record updated at a new entry into FAILING, its status by cases (R124). -/
theorem failAgain_eq (n : Nat) (r : FaultRecord) : r.failAgain n = { r with
    occurrences := min (r.occurrences + 1) 255, lastRide := n, goodRides := 0,
    status := if r.status = .pending ∧ n ≤ r.firstRide then .pending else .confirmed } := by
  unfold FaultRecord.failAgain
  cases r.status with
  | pending => by_cases earlier : r.firstRide < n <;> simp [earlier]
  | confirmed => simp
  | healed => simp

/-- No two records of a memory are of one fault. -/
theorem eq_of_same_fault {rs : List FaultRecord} (nodup : (rs.map (·.fault)).Nodup) {a b : FaultRecord}
    (ha : a ∈ rs) (hb : b ∈ rs) (same : a.fault = b.fault) : a = b :=
  List.inj_on_of_nodup_map nodup ha hb same

/-- Settles O23: the two branches of `memoryEnterFailing` that need no victim. -/
theorem failingIsRecorded : Obligations.FailingIsRecorded := by
  refine ⟨fun s src f d running named defined unblanked before confirms absent room => ?_,
    fun s src f d r running named defined unblanked before confirms held fault nodup => ?_⟩
  · intro t
    have entered : t = _ := takeSample_enters running named defined unblanked before confirms
    rw [entered]
    generalize nextRuntime d .fail (s.faultRt.at f) = rt
    rw [enterFailing_memory, memoryEnterFailing_of_room (by exact absent) (by exact room)]
    refine ⟨rfl, rfl, rfl, ?_, fun g other => ?_⟩
    · simp [enterFailing_notice]
    · rw [enterFailing_notice, memoryEnterFailing_of_room (by exact absent) (by exact room), setNotice_at]
      simp [other.symm, changeRecords, setFaultRt]
  · intro t
    have entered : t = _ := takeSample_enters running named defined unblanked before confirms
    rw [entered]
    generalize nextRuntime d .fail (s.faultRt.at f) = rt
    have record : ∃ x, recordOf (setFaultRt f rt s) f = some x := by
      rw [← Option.ne_none_iff_exists', Ne, recordOf_eq_none_iff]
      exact fun none => none r held fault
    obtain ⟨x, record⟩ := record
    rw [enterFailing_memory, memoryEnterFailing_of_record record]
    refine ⟨List.map_congr_left fun y mem => ?_, rfl, rfl, ?_⟩
    · by_cases same : y.fault = f
      · rw [if_pos same, if_pos same, eq_of_same_fault nodup mem held (same.trans fault.symm)]
        exact failAgain_eq s.ride.rideNumber r
      · rw [if_neg same, if_neg same]
    · simp [enterFailing_notice]

/-! ### Victims -/

theorem bestVictim_eq_none_iff {s : State} {level : Nat} {rs : List FaultRecord} :
    bestVictim s level rs = none ↔ ∀ r ∈ rs, eligibleVictim s level r = false := by
  induction rs with
  | nil => simp [bestVictim]
  | cons r rs ih =>
    rw [List.forall_mem_cons, ← ih]
    conv_lhs => rw [bestVictim]
    cases bestVictim s level rs with
    | none => simp
    | some b => dsimp only; split <;> simp

theorem bestVictim_mem {s : State} {level : Nat} {rs : List FaultRecord} {b : FaultRecord}
    (best : bestVictim s level rs = some b) : b ∈ rs ∧ eligibleVictim s level b = true := by
  induction rs with
  | nil => cases best
  | cons r rs ih =>
    unfold bestVictim at best
    cases rest : bestVictim s level rs with
    | none =>
      simp only [rest, Option.ite_none_right_eq_some, Option.some.injEq] at best
      obtain ⟨eligible, rfl⟩ := best
      exact ⟨List.mem_cons_self, eligible⟩
    | some c =>
      simp only [rest] at best
      split_ifs at best with better
      · cases best
        exact ⟨List.mem_cons_self, (Bool.and_eq_true_iff.mp better).1⟩
      · cases best
        obtain ⟨mem, eligible⟩ := ih rest
        exact ⟨List.mem_cons_of_mem r mem, eligible⟩

/-- R120's keys in one number, for levels 0..3: the status first, then the level. -/
def victimKey (s : State) (r : FaultRecord) : Nat := r.status.victimRank * 4 + levelOf s r.fault

theorem betterVictim_iff {s : State} {a b : FaultRecord} (la : levelOf s a.fault ≤ 3) (lb : levelOf s b.fault ≤ 3) :
    betterVictim s a b = true ↔ victimKey s a < victimKey s b := by
  simp only [betterVictim, victimKey, Bool.or_eq_true, Bool.and_eq_true, decide_eq_true_eq, beq_iff_eq]
  omega

theorem eligibleVictim_iff {s : State} {level : Nat} {r : FaultRecord} :
    eligibleVictim s level r = true ↔ verdictOf s r.fault ≠ .failing ∧ levelOf s r.fault ≤ level := by
  simp [eligibleVictim]

/-- The best victim is the first of the eligible records of least key (R120). -/
theorem bestVictim_append {s : State} {level : Nat} {front back : List FaultRecord} {v : FaultRecord}
    (level3 : level ≤ 3) (eligible : eligibleVictim s level v = true)
    (before : ∀ r ∈ front, eligibleVictim s level r = true → victimKey s v < victimKey s r)
    (behind : ∀ r ∈ back, eligibleVictim s level r = true → victimKey s v ≤ victimKey s r) :
    bestVictim s level (front ++ v :: back) = some v := by
  have low {r : FaultRecord} (eligible : eligibleVictim s level r = true) : levelOf s r.fault ≤ 3 :=
    (eligibleVictim_iff.mp eligible).2.trans level3
  induction front with
  | nil =>
    rw [List.nil_append, bestVictim]
    cases rest : bestVictim s level back with
    | none => simp [eligible]
    | some b =>
      obtain ⟨mem, other⟩ := bestVictim_mem rest
      have notBetter : betterVictim s b v = false := by
        rw [Bool.eq_false_iff, Ne, betterVictim_iff (low other) (low eligible)]
        exact Nat.not_lt.mpr (behind b mem other)
      simp [eligible, notBetter]
  | cons r front ih =>
    rw [List.forall_mem_cons] at before
    rw [List.cons_append, bestVictim, ih before.2]
    cases other : eligibleVictim s level r with
    | false => rfl
    | true =>
      have better := (betterVictim_iff (low eligible) (low other)).mpr (before.1 other)
      simp [better]

/-- Settles O24: `bestVictim` finds the record that R120 names, and `withoutFault` drops it alone. -/
theorem fullMemoryChoosesVictim : Obligations.FullMemoryChoosesVictim := by
  intro s src f d running named defined unblanked before confirms absent size nodup t eligible key
  have entered : t = _ := takeSample_enters running named defined unblanked before confirms
  rw [entered]
  clear_value t
  subst entered
  generalize nextRuntime d .fail (s.faultRt.at f) = rt
  have noRecord : recordOf (setFaultRt f rt s) f = none := absent
  -- The failing fault has no record, so its new verdict makes none eligible or ineligible.
  have same : ∀ r ∈ s.memory.records,
      (eligibleVictim (setFaultRt f rt s) d.level r = true ↔ eligible r) := by
    intro r mem
    have other : f ≠ r.fault := (recordOf_eq_none_iff.mp absent r mem).symm
    rw [eligibleVictim_iff]
    simp only [eligible, verdictOf, setFaultRt_faultRt, Table.at_put_ne _ _ other]
    exact Iff.rfl
  have full : ¬(setFaultRt f rt s).memory.records.length < maxRecords := by
    change ¬s.memory.records.length < 20
    omega
  refine ⟨fun ineligible => ?_, fun front v back records chosen level before behind => ?_⟩
  · have none : bestVictim (setFaultRt f rt s) d.level (setFaultRt f rt s).memory.records = none := by
      rw [bestVictim_eq_none_iff]
      intro r mem
      rw [Bool.eq_false_iff]
      exact fun e => ineligible r mem ((same r mem).mp e)
    rw [enterFailing_memory, memoryEnterFailing, noRecord]
    dsimp only
    rw [createRecord, if_neg full, none]
    rfl
  · have mem {r : FaultRecord} (h : r ∈ front ∨ r = v ∨ r ∈ back) : r ∈ s.memory.records := by
      rw [records]
      simpa using h
    have victim : bestVictim (setFaultRt f rt s) d.level (setFaultRt f rt s).memory.records = some v := by
      change bestVictim _ _ s.memory.records = _
      rw [records]
      refine bestVictim_append level ((same v (mem (.inr (.inl rfl)))).mpr chosen) ?_ ?_
      · exact fun r inFront e => before r inFront ((same r (mem (.inl inFront))).mp e)
      · exact fun r inBack e => behind r inBack ((same r (mem (.inr (.inr inBack)))).mp e)
    have rest : withoutFault v.fault s.memory.records = front ++ back := by
      rw [records] at nodup ⊢
      simp only [List.map_append, List.map_cons, List.nodup_append, List.nodup_cons, List.mem_map, List.mem_cons]
        at nodup
      obtain ⟨-, ⟨notBehind, -⟩, disjoint⟩ := nodup
      have keepsFront : front.filter (·.fault != v.fault) = front := List.filter_eq_self.mpr fun r inFront => by
        simpa using disjoint r.fault ⟨r, inFront, rfl⟩ v.fault (.inl rfl)
      have keepsBack : back.filter (·.fault != v.fault) = back := List.filter_eq_self.mpr fun r inBack => by
        simp only [bne_iff_ne]
        exact fun same => notBehind ⟨r, inBack, same⟩
      simp [withoutFault, keepsFront, keepsBack]
    have nineteen : (front ++ back).length = 19 := by
      have := congrArg List.length records
      simp at this ⊢
      omega
    have displaced : memoryEnterFailing f d (setFaultRt f rt s) = setNotice f (setNotice v.fault
        (changeRecords (front ++ back ++ [newRecord (setFaultRt f rt s) f d]) (setFaultRt f rt s))) := by
      rw [memoryEnterFailing, noRecord]
      dsimp only
      rw [createRecord, if_neg full, victim, ← rest]
      rfl
    rw [enterFailing_memory, displaced]
    refine ⟨?_, ?_, ⟨newRecord (setFaultRt f rt s) f d, ?_, rfl, rfl⟩, rfl, rfl, ?_, ?_⟩
    · simp only [setNotice_memory, changeRecords, State.setMemory_memory, List.length_append, nineteen]
      rfl
    · simp only [setNotice_memory, changeRecords, State.setMemory_memory]
      rw [List.take_append_of_le_length (by omega), List.take_of_length_le (by omega)]
    · simp only [setNotice_memory, changeRecords, State.setMemory_memory]
      rw [List.getElem?_append_right (by omega), nineteen]
      rfl
    · rw [enterFailing_notice, displaced, setNotice_at, setNotice_at]
      simp
    · simp [enterFailing_notice]

end Sys2Proof.Proofs
end

section
/-!
PROOFS. Verdicts, counters and record statuses agree (R97, R102, R124).
-/

namespace Sys2Proof.Proofs

open Sys2Proof.Machine

/-! ### The invariant in propositions -/

/-- A verdict fits its counter (R102). -/
structure FitsCounter (d : FaultDef) (rt : FaultRuntime) : Prop where
  failing : rt.verdict = .failing → d.heal < rt.counter
  passing : rt.verdict = .passing → rt.counter < d.confirm

/-- What `verdictsKept` says, with the legality of the tables that R102's thresholds come from. -/
structure VerdictsFit (t : Tables) (records : List FaultRecord) (rts : Table FaultRuntime 64) (st : RideState) :
    Prop where
  tables : TablesFit t
  healed : ∀ r ∈ records, r.status = .healed → t.faults.at r.fault ≠ none → (rts.at r.fault).verdict ≠ .failing
  rest : st = .settling ∨ st = .configure → ∀ f, (rts.at f).verdict = .untested
  counters : st.isRunning = true → ∀ f d, t.faults.at f = some d → FitsCounter d (rts.at f)

/-- The invariant of a state. -/
def VerdictsAgree (s : State) : Prop := VerdictsFit s.tables s.memory.records s.faultRt s.ride.state

theorem verdictOf_eq_failing_iff {s : State} {f : Fin 64} :
    verdictOf s f = .failing ↔ s.tables.faults.at f ≠ none ∧ (s.faultRt.at f).verdict = .failing := by
  unfold verdictOf
  cases s.tables.faults.at f <;> simp

theorem verdictsKept_iff (s : State) : (tablesLegal s.tables = true ∧ verdictsKept s = true) ↔ VerdictsAgree s := by
  have healed : noHealedFailing s = true ↔ ∀ r ∈ s.memory.records, r.status = .healed →
      s.tables.faults.at r.fault ≠ none → (s.faultRt.at r.fault).verdict ≠ .failing := by
    simp only [noHealedFailing, List.all_eq_true, Bool.not_eq_true', Bool.and_eq_false_iff, beq_eq_false_iff_ne,
      ← imp_iff_not_or, Ne, verdictOf_eq_failing_iff, not_and]
  have rest : verdictsAtRest s = true ↔ (s.ride.state = .settling ∨ s.ride.state = .configure →
      ∀ f, (s.faultRt.at f).verdict = .untested) := by
    simp only [verdictsAtRest, Bool.or_eq_true, Bool.not_eq_true', Bool.or_eq_false_iff, beq_eq_false_iff_ne,
      everyIndex_iff, beq_iff_eq, ← not_or, ← imp_iff_not_or]
  have counters : verdictsFitCounters s = true ↔ (s.ride.state.isRunning = true → ∀ f d,
      s.tables.faults.at f = some d → FitsCounter d (s.faultRt.at f)) := by
    simp only [verdictsFitCounters, Bool.or_eq_true, Bool.not_eq_true', everyIndex_iff, wherePresent_iff,
      Bool.and_eq_true, bne_iff_ne, decide_eq_true_eq, ← imp_iff_not_or, ← Bool.not_eq_true]
    exact ⟨fun h r f d defined => ⟨(h r f d defined).1, (h r f d defined).2⟩,
      fun h r f d defined => ⟨(h r f d defined).failing, (h r f d defined).passing⟩⟩
  rw [verdictsKept, Bool.and_eq_true, Bool.and_eq_true, tablesLegal_iff, healed, rest, counters]
  exact ⟨fun ⟨t, ⟨h, r⟩, c⟩ => ⟨t, h, r, c⟩, fun ⟨t, h, r, c⟩ => ⟨t, ⟨h, r⟩, c⟩⟩

namespace VerdictsFit

/-- With every verdict UNTESTED the rest agrees, whatever the records. -/
theorem untested {t : Tables} (records : List FaultRecord) {rts : Table FaultRuntime 64} (st : RideState)
    (tables : TablesFit t) (none : ∀ f, (rts.at f).verdict = .untested) : VerdictsFit t records rts st where
  tables := tables
  healed r _ _ _ := by simp [none]
  rest _ := none
  counters _ f d _ := ⟨fun failing => (by cases (none f).symm.trans failing),
    fun passing => (by cases (none f).symm.trans passing)⟩

/-- The records of a fault that the verdicts agree with may be changed, as long as none becomes HEALED. -/
theorem setRecords {t : Tables} {records new : List FaultRecord} {rts : Table FaultRuntime 64} {st : RideState}
    (fits : VerdictsFit t records rts st)
    (healed : ∀ r ∈ new, r.status = .healed → r ∈ records ∨ (rts.at r.fault).verdict ≠ .failing) :
    VerdictsFit t new rts st := by
  refine ⟨fits.tables, fun r mem status defined => ?_, fits.rest, fits.counters⟩
  rcases healed r mem status with old | notFailing
  · exact fits.healed r old status defined
  · exact notFailing

end VerdictsFit

/-! ### Counted samples -/

/-- A counted sample leaves the verdict fitting the counter, whatever it was before. -/
theorem fitsCounter_nextRuntime {d : FaultDef} (legal : d.legal = true) (x : Finding) (rt : FaultRuntime) :
    FitsCounter d (nextRuntime d x rt) := by
  have order : d.heal < d.confirm := by
    simp only [FaultDef.legal, Bool.and_eq_true, decide_eq_true_eq] at legal
    omega
  obtain ⟨high, low, -⟩ := nextVerdict_spec legal (stepCounter d x rt.counter) rt.verdict
  refine ⟨fun failing => ?_, fun passing => ?_⟩
  · by_contra below
    cases failing.symm.trans (low (not_lt.mp below))
  · by_contra above
    cases passing.symm.trans (high (not_lt.mp above))

/-- A fault's runtime replaced in a ride, and the records with it: a HEALED record is an old one, and where it is the
fault's own, the fault does not become FAILING. -/
theorem VerdictsFit.putRuntime {t : Tables} {records new : List FaultRecord} {rts : Table FaultRuntime 64}
    {st : RideState} (fits : VerdictsFit t records rts st) (running : st.isRunning = true) {f : Fin 64} {d : FaultDef}
    {rt : FaultRuntime} (defined : t.faults.at f = some d) (counter : FitsCounter d rt)
    (healed : ∀ r ∈ new, r.status = .healed → r ∈ records ∧
      (r.fault = f → rt.verdict = .failing → (rts.at f).verdict = .failing)) :
    VerdictsFit t new (rts.put f rt) st where
  tables := fits.tables
  healed r mem status defined := by
    obtain ⟨old, own⟩ := healed r mem status
    rw [Table.at_put]
    split
    next same => exact fun failing => fits.healed r old status defined (same ▸ own same.symm failing)
    · exact fits.healed r old status defined
  rest atRest := by rcases atRest with rfl | rfl <;> cases running
  counters _ g e defined' := by
    rw [Table.at_put]
    split
    next same =>
      cases same
      cases defined.symm.trans defined'
      exact counter
    · exact fits.counters running g e defined'

theorem failAgain_status (n : Nat) (r : FaultRecord) : (r.failAgain n).status ≠ .healed := by
  rw [failAgain_eq]
  dsimp only
  split <;> simp

theorem newRecord_status (s : State) (f : Fin 64) (d : FaultDef) : (newRecord s f d).status ≠ .healed := by
  unfold newRecord
  dsimp only
  split <;> simp

/-- After an entry into FAILING every HEALED record is an old one of another fault (R118, R124). -/
theorem Recorded.healed {s : State} {f : Fin 64} {d : FaultDef} {m : FaultMemory} (recorded : Recorded s f d m) :
    ∀ r ∈ m.records, r.status = .healed → r ∈ s.memory.records ∧ r.fault ≠ f := by
  have old {r : FaultRecord} (absent : recordOf s f = none) (mem : r ∈ s.memory.records) :
      r ∈ s.memory.records ∧ r.fault ≠ f := ⟨mem, recordOf_eq_none_iff.mp absent r mem⟩
  cases recorded with
  | again held =>
    intro r mem status
    obtain ⟨b, before, rfl⟩ := List.mem_map.mp mem
    split at status
    · exact absurd status (failAgain_status _ _)
    next other =>
      rw [if_neg other]
      exact ⟨before, other⟩
  | created absent room =>
    intro r mem status
    rcases List.mem_append.mp mem with before | new
    · exact old absent before
    · rw [List.mem_singleton.mp new] at status
      exact absurd status (newRecord_status s f d)
  | full absent none => exact fun r mem _ => old absent mem
  | displaced absent victim =>
    intro r mem status
    rcases List.mem_append.mp mem with before | new
    · exact old absent (List.mem_of_mem_filter before)
    · rw [List.mem_singleton.mp new] at status
      exact absurd status (newRecord_status s f d)

namespace VerdictsAgree

theorem countSample {s : State} {f : Fin 64} {d : FaultDef} (running : s.ride.state.isRunning = true)
    (defined : s.tables.faults.at f = some d) (x : Finding) (fits : VerdictsAgree s) :
    VerdictsAgree (Machine.countSample f d x s) := by
  have frame := countSample_frame f d x s
  have counter := fitsCounter_nextRuntime (fits.tables.faults f d defined) x (s.faultRt.at f)
  have effect := countSample_counted f d x s
  unfold VerdictsAgree
  rw [frame.tables, frame.ride, countSample_faultRt]
  refine fits.putRuntime running defined counter ?_
  generalize Machine.countSample f d x s = t at effect
  cases effect with
  | entry _ _ =>
    intro r mem status
    obtain ⟨old, other⟩ := (memoryEnterFailing_recorded (setFaultRt f _ s) f d).healed r mem status
    exact ⟨old, fun own => absurd own other⟩
  | heals passing _ => exact fun r mem _ => ⟨mem, fun _ failing => (by cases passing.symm.trans failing)⟩
  | moves stays => exact fun r mem _ => ⟨mem, fun _ failing => stays.mp failing⟩

theorem takeSample (src : Source) (x : Finding) {s : State} (fits : VerdictsAgree s) :
    VerdictsAgree (Machine.takeSample src x s) := by
  rcases takeSample_cases src x s with same | ⟨f, d, running, defined, counted⟩
  · rw [same]; exact fits
  · rw [counted]; exact fits.countSample running defined x

theorem enterRideState (new : RideState) {s : State} (running : s.ride.state.isRunning = true)
    (runningNew : new.isRunning = true) (fits : VerdictsAgree s) :
    VerdictsAgree (Machine.enterRideState new s) :=
  ⟨fits.tables, fits.healed, fun atRest => (by
    change new = .settling ∨ new = .configure at atRest
    rcases atRest with rfl | rfl <;> cases runningNew), fun _ => fits.counters running⟩

theorem stable : Stable VerdictsAgree where
  sample src x _ := takeSample src x
  notice _ _ h := h
  selector h := by rw [runSelector_eq_with_attempt]; exact h
  begins cls _ h := by unfold beginClass; split <;> exact h
  ends cls _ h := by unfold endClass; dsimp only; split <;> exact h
  freeUses _ _ h := h
  chassis _ _ _ h := h
  arrival _ h := h
  reload _ h := h
  watchRt _ _ h := h
  substitute w e _ h := by
    unfold offerSubstitute
    split
    · split <;> exact h
    · exact h
  offer _ _ _ _ h := h
  enqueue _ _ _ h := by unfold enqueueFrame; split <;> exact h
  signal _ _ _ _ h := h
  histories _ _ h := h
  engine new _ := enterRideState new
  speed h := h
  absReady h := h
  vote _ _ h := h

/-! ### Rides begun and closed -/

theorem ofFrame {s t : State} (frame : SampleFrame s t) (faultRt : t.faultRt = s.faultRt) (fits : VerdictsAgree s)
    (healed : ∀ r ∈ t.memory.records, r.status = .healed →
      r ∈ s.memory.records ∨ (s.faultRt.at r.fault).verdict ≠ .failing) : VerdictsAgree t := by
  unfold VerdictsAgree
  rw [frame.tables, frame.ride, faultRt]
  exact VerdictsFit.setRecords fits healed

theorem setNotices_kept (fs : List (Fin 64)) (s : State) :
    (setNotices fs s).memory = s.memory ∧ (setNotices fs s).faultRt = s.faultRt := by
  rw [setNotices_eq]
  exact ⟨rfl, rfl⟩

theorem removeRecords (p : FaultRecord → Bool) {s : State} (fits : VerdictsAgree s) :
    VerdictsAgree (Machine.removeRecords p s) := by
  have frame := removeRecords_frame p s
  unfold Machine.removeRecords at frame ⊢
  dsimp only at frame ⊢
  split at frame
  next none => rw [if_pos none]; exact fits
  next some =>
    rw [if_neg some]
    obtain ⟨memory, faultRt⟩ := setNotices_kept ((s.memory.records.filter p).map (·.fault))
      (changeRecords (s.memory.records.filter fun r => !p r) s)
    refine ofFrame frame faultRt fits fun r mem _ => .inl ?_
    rw [updateLamps_memory, memory] at mem
    exact List.mem_of_mem_filter mem

/-- A record that a closure makes HEALED is one whose fault is PASSING (R127). -/
theorem closeRecord_healed {s : State} {old r : FaultRecord} (closed : closeRecord s old = some r)
    (status : r.status = .healed) : r = old ∨ (s.faultRt.at r.fault).verdict ≠ .failing := by
  unfold closeRecord at closed
  split at closed
  · cases closed; exact .inl rfl
  · split at closed
    next good =>
      refine .inr ?_
      have fault : r.fault = old.fault := by
        unfold FaultRecord.afterGoodRide at closed
        dsimp only at closed
        split at closed
        · cases closed
        · cases closed; rfl
        · split at closed <;> cases closed
          rfl
      rw [fault, good.2]
      simp
    · cases closed; exact .inl rfl

theorem closeRecords {s : State} (fits : VerdictsAgree s) : VerdictsAgree (Machine.closeRecords s) := by
  have frame := closeRecords_frame s
  unfold Machine.closeRecords at frame ⊢
  dsimp only at frame ⊢
  split at frame
  next none => rw [if_pos none]; exact fits
  next some =>
    rw [if_neg some]
    obtain ⟨memory, faultRt⟩ := setNotices_kept
      ((s.memory.records.filter fun r => closeRecord s r != Option.some r).map (·.fault))
      (changeRecords (s.memory.records.filterMap (closeRecord s)) s)
    refine ofFrame frame faultRt fits fun r mem status => ?_
    rw [updateLamps_memory, memory] at mem
    obtain ⟨old, before, closed⟩ := List.mem_filterMap.mp mem
    rcases closeRecord_healed closed status with rfl | notFailing
    · exact .inl before
    · exact .inr notFailing

theorem rideStart {s : State} (tables : TablesFit s.tables) : VerdictsAgree (Machine.rideStart s) := by
  unfold Machine.rideStart
  rw [rideStartGates_eq]
  refine stable.samples _ (stable.notices _ (VerdictsFit.untested _ _ tables fun f => ?_))
  change ((Table.fill 64 FaultRuntime.initial).at f).verdict = .untested
  rw [Table.at_fill]
  rfl

/-- In a ride state without rules for its verdicts, the records and their faults' verdicts decide. -/
theorem enterState {s t : State} (fits : VerdictsAgree s) (tables : t.tables = s.tables)
    (records : ∀ r ∈ t.memory.records, r ∈ s.memory.records) (faultRt : t.faultRt = s.faultRt)
    (state : t.ride.state = .closing ∨ t.ride.state = .asleep) : VerdictsAgree t where
  tables := tables ▸ fits.tables
  healed r mem := by
    rw [tables, faultRt]
    exact fits.healed r (records r mem)
  rest atRest := by rcases state with state | state <;> rw [state] at atRest <;> simp at atRest
  counters running := by rcases state with state | state <;> rw [state] at running <;> cases running

theorem finishClosing {s : State} (fits : VerdictsAgree s) : VerdictsAgree (Machine.finishClosing s) := by
  unfold Machine.finishClosing
  split
  · rw [enterAsleep_eq]
    exact fits.enterState rfl (fun r mem => by cases mem) rfl (.inr rfl)
  · rw [enterSettling_eq]
    refine VerdictsFit.untested _ _ fits.tables fun f => ?_
    rw [Table.at_fill]
    rfl

theorem enterClosing {s : State} (fits : VerdictsAgree s) : VerdictsAgree (Machine.enterClosing s) := by
  unfold Machine.enterClosing
  extract_lets qualified u v
  have closed : VerdictsAgree u := by
    simp only [u]
    rw [closingValues_eq]
    exact fits.enterState rfl (fun _ mem => mem) rfl (.inl rfl)
  have processed : VerdictsAgree v := by
    simp only [v]
    split
    · exact closeRecords (s := (u.setRide { u.ride with rideNumber := min (u.ride.rideNumber + 1) 65535 }).setMemory
        { u.memory with dirty := true }) closed
    · exact closed
  split
  · rw [beginMemoryWrite_eq]
    exact processed
  · exact processed.finishClosing

theorem startOrClose {s : State} (fits : VerdictsAgree s) : VerdictsAgree (Machine.startOrClose s) := by
  unfold Machine.startOrClose
  split
  · exact rideStart fits.tables
  · exact fits.enterClosing

theorem ignChanged (level : Level) {s : State} (fits : VerdictsAgree s) :
    VerdictsAgree (Machine.ignChanged level s) := by
  unfold Machine.ignChanged
  split
  · rw [enterSettling_eq]
    refine VerdictsFit.untested _ _ fits.tables fun f => ?_
    rw [Table.at_fill]
    rfl
  · exact fits.enterClosing
  · exact fits.enterClosing
  · exact fits.enterClosing
  · split
    · exact fits
    · exact fits.enterClosing
    · exact fits.enterClosing
  all_goals exact fits

/-! ### Loads -/

/-- A load leaves untested verdicts untested. -/
theorem loadTables_untested {s : State} (none : ∀ f, (s.faultRt.at f).verdict = .untested) (f : Fin 64) :
    ((loadTables s).faultRt.at f).verdict = .untested := by
  rw [(loadTables_loaded s).faultRt]
  split
  · rfl
  · exact none f

theorem loadMemory_untested {s : State} (tables : TablesFit s.tables)
    (none : ∀ f, (s.faultRt.at f).verdict = .untested) : VerdictsAgree (loadMemory s) := by
  rw [loadMemory_eq]
  split <;> exact VerdictsFit.untested _ _ tables none

theorem respond (c : Byte) (r : Result) (d : List Byte) {s : State} (fits : VerdictsAgree s) :
    VerdictsAgree (Machine.respond c r d s) := fits

theorem selector {s : State} (fits : VerdictsAgree s) : VerdictsAgree (runSelector s) := stable.selector fits

theorem endOfWork {s : State} (fits : VerdictsAgree s) : VerdictsAgree (Machine.endOfWork s) :=
  selector (startOrClose (fits.respond _ _ _))

/-! ### Entries -/

/-- An entry stored or erased in CONFIGURE, where every verdict is UNTESTED. -/
theorem edit {s t : State} (fits : VerdictsAgree s) (configure : s.ride.state = .configure)
    (tables : TablesFit t.tables) (faultRt : ∀ f, t.faultRt.at f = .initial ∨ t.faultRt.at f = s.faultRt.at f) :
    VerdictsAgree t := by
  refine VerdictsFit.untested _ _ tables fun f => ?_
  rcases faultRt f with reset | same
  · rw [reset]; rfl
  · rw [same]; exact fits.rest (.inr configure) f

theorem replaceFault (f : Fin 64) (x : Option FaultDef) {s : State} (fits : VerdictsAgree s)
    (configure : s.ride.state = .configure) (legal : ∀ e, x = some e → e.legal = true) :
    VerdictsAgree (Machine.replaceFault f x s) := by
  refine fits.edit configure (fits.tables.putFault f legal) fun g => ?_
  simp only [Machine.replaceFault, State.setFaultRt_faultRt, Table.at_put]
  split
  · exact .inl rfl
  · exact .inr rfl

theorem eraseEntryAt (entry : EntryRef) {s : State} (fits : VerdictsAgree s)
    (configure : s.ride.state = .configure) : VerdictsAgree (Machine.eraseEntryAt entry s) := by
  cases entry with
  | watch i => exact fits.edit configure (fits.tables.putWatch i (by simp)) fun _ => .inr rfl
  | signal i =>
    exact stable.replaceSignal i none (fits.edit configure (fits.tables.putSignal i (by simp)) fun _ => .inr rfl)
  | vote k => exact fits.edit configure (fits.tables.putVote k (by simp)) fun _ => .inr rfl
  | fault f => exact fits.replaceFault f none configure (by simp)
  | settings => exact fits.edit configure (fits.tables.putSettings clamped_default) fun _ => .inr rfl

theorem storeEntry (entry : EntryRef) {s t : State} {data : List Byte} (fits : VerdictsAgree s)
    (configure : s.ride.state = .configure) (stored : storeEntryOutcome entry s = .inr (t, data)) :
    VerdictsAgree t := by
  cases entry with
  | watch i =>
    obtain ⟨e, decoded, -, rfl, -⟩ := GatesAndOperations.storeOutcome_stored stored
    have legal := watchEntry_legal_of_image decoded
    exact fits.edit configure (fits.tables.putWatch i (by simpa using legal)) fun _ => .inr rfl
  | signal i =>
    obtain ⟨e, decoded, -, rfl, -⟩ := GatesAndOperations.storeOutcome_stored stored
    have legal := signalEntry_legal_of_image decoded
    exact stable.replaceSignal i (some e)
      (fits.edit configure (fits.tables.putSignal i (by simpa using legal)) fun _ => .inr rfl)
  | vote k =>
    obtain ⟨e, decoded, -, rfl, -⟩ := GatesAndOperations.storeOutcome_stored stored
    have legal := voteRule_legal_of_image decoded
    exact fits.edit configure (fits.tables.putVote k (by simpa using legal)) fun _ => .inr rfl
  | fault f =>
    obtain ⟨e, decoded, -, rfl, -⟩ := GatesAndOperations.storeOutcome_stored stored
    have legal := faultDef_legal_of_image decoded
    exact fits.replaceFault f (some e) configure (by simpa using legal)
  | settings =>
    simp only [storeEntryOutcome] at stored
    split at stored <;> cases stored
    exact fits.edit configure (fits.tables.putSettings (clamped_clamped _)) fun _ => .inr rfl

theorem enterConfigure {s : State} (fits : VerdictsAgree s) : VerdictsAgree (Machine.enterConfigure s) := by
  rw [enterConfigure_eq]
  refine VerdictsFit.untested _ _ fits.tables fun f => ?_
  rw [Table.at_fill]
  rfl

theorem carryOut (r : Request) {s : State} (fits : VerdictsAgree s) (permitted : Request.fits s.ride.state r) :
    VerdictsAgree (Machine.carryOut r s) := by
  cases r with
  | status | readFault _ | readBuffer _ => exact fits.respond _ _ _
  | writeBuffer offset data => exact respond (s := s.setMgmt _) _ _ _ fits
  | setNoticeMask level enables => exact respond (s := s.setTx _) _ _ _ fits
  | readSignal i =>
    simp only [Machine.carryOut, doReadSignal]
    split <;> exact fits.respond _ _ _
  | peekMonitor w =>
    simp only [Machine.carryOut, doPeekMonitor]
    split <;> exact fits.respond _ _ _
  | fetchRecord k =>
    simp only [Machine.carryOut, doFetchRecord]
    split
    · exact fits.respond _ _ _
    · exact respond (s := fillBuffer _ s) _ _ _ fits
  | clearRecords mask => exact fits.removeRecords _
  | enterConfigure =>
    simp only [Machine.carryOut, doEnterConfigure]
    split
    · exact fits.enterConfigure.respond _ _ _
    · exact fits.respond _ _ _
  | leaveConfigure commit =>
    simp only [Machine.carryOut, doLeaveConfigure]
    split
    · unfold doCommit
      split
      · exact fits.respond _ _ _
      · rw [beginTablesWrite_eq]
        exact removeRecords (orphanRecord s) (s := beginWork _ s) fits
    · exact fits
  | storeEntry e =>
    simp only [Machine.carryOut, doStoreEntry]
    split
    · exact fits.respond _ _ _
    · exact (fits.storeEntry e permitted ‹_›).respond _ _ _
  | fetchEntry e =>
    simp only [Machine.carryOut, doFetchEntry]
    split
    · exact fits.respond _ _ _
    · exact respond (s := fillBuffer _ s) _ _ _ fits
  | eraseEntry e => exact (fits.eraseEntryAt e permitted).respond _ _ _

/-! ### Attempts and ticks -/

theorem completeItem (a : Attempt) {s : State} (fits : VerdictsAgree s) :
    VerdictsAgree (Machine.completeItem a s) := by
  unfold Machine.completeItem
  split
  · exact fits
  · split <;> exact fits
  · exact fits
  · exact fits
  · split <;> exact fits
  · exact fits

theorem attemptFails {s : State} (fits : VerdictsAgree s) : VerdictsAgree (Machine.attemptFails s) := by
  unfold Machine.attemptFails
  extract_lets u
  split
  · exact takeSample _ _ (s := u.setTx { u.tx with offline := some 100 }) fits
  · exact selector (s := u) fits

theorem tickTimers {s : State} (fits : VerdictsAgree s) : VerdictsAgree (Machine.tickTimers s) := by
  have held : (tickHeldTimers s).tables = s.tables ∧ (tickHeldTimers s).memory = s.memory ∧
      (tickHeldTimers s).faultRt = s.faultRt ∧ (tickHeldTimers s).ride.state = s.ride.state := by
    unfold tickHeldTimers
    split <;> simp
  obtain ⟨tables, memory, faultRt, state⟩ := held
  unfold VerdictsAgree Machine.tickTimers tickFreeTimers
  simp only [State.setRide_tables, State.setStore_tables, State.setTx_tables, State.setRide_memory,
    State.setStore_memory, State.setTx_memory, State.setRide_faultRt, State.setStore_faultRt, State.setTx_faultRt,
    State.setRide_ride, tables, memory, faultRt, state]
  exact fits

theorem ofReset {s : State} (tables : s.tables = .empty) (faultRt : s.faultRt = Table.fill 64 .initial) :
    VerdictsAgree s := by
  refine VerdictsFit.untested _ _ (tables ▸ .empty) fun f => ?_
  rw [faultRt, Table.at_fill]
  rfl

end VerdictsAgree

/-- The ride state of an operation that may complete. -/
theorem state_of_mayComplete {s : State} (fits : OperationFits s.ride.state s.store.op s.mgmt.inbox) {w : StoreWork}
    (mayComplete : opMayComplete s w = true) : s.ride.state = w.rideState := by
  unfold opMayComplete at mayComplete
  cases op : s.store.op with
  | none => simp [op] at mayComplete
  | some o =>
    simp only [op, Bool.and_eq_true, beq_iff_eq] at mayComplete
    rw [fits.state o op, mayComplete.1]

/-- Settles O58: a verdict moves with its counter alone, an entry into FAILING leaves no HEALED record of the fault,
and a closure heals records of PASSING faults only. -/
theorem stepKeepsVerdicts : Obligations.StepKeepsVerdicts := by
  intro s t operations legal verdicts stepped
  obtain ⟨rest, effect⟩ := step_effect stepped
  have fits := (verdictsKept_iff s).mp ⟨legal, verdicts⟩
  refine ((verdictsKept_iff t).mpr ?_).2
  simp only [operationsKept, Bool.and_eq_true] at operations
  obtain ⟨⟨work, -⟩, -⟩ := operations
  replace work := (operationFits_iff s).mp work
  replace work : OperationFits (s.setPending rest).ride.state (s.setPending rest).store.op
    (s.setPending rest).mgmt.inbox := work
  replace fits : VerdictsAgree (s.setPending rest) := fits
  clear legal verdicts stepped
  generalize s.setPending rest = s at fits effect work
  have stable := VerdictsAgree.stable
  cases effect with
  | idle => exact fits
  | tick waiting _ => exact fits.tickTimers
  | powerOnReset | leaveReset _ _ => exact .ofReset rfl rfl
  | frame id _ short => exact stable.takeFrame id short fits
  | busError _ => exact stable.takeBusError fits
  | silence _ => exact stable.silenceExpires fits
  | monitor timed _ => exact (stable.monitorExpires timed fits).selector
  | period timed _ => exact (stable.periodExpires timed fits).selector
  | vote rule due => exact (stable.voteExpires rule due fits).selector
  | pins _ => exact fits
  | ignChange level pins =>
    exact (VerdictsAgree.ignChanged level
      (s := (s.setPins pins).setRide { s.ride with ign := level, ignCount := 0 }) fits).selector
  | bandChange new pins =>
    obtain ⟨c, l, changed⟩ := bandChanged_eq new (s.setPins pins)
    rw [changed]
    exact fits
  | load mayComplete =>
    have untested := VerdictsAgree.loadTables_untested (s := endOp s)
      (fits.rest (.inl (state_of_mayComplete work mayComplete)))
    exact (VerdictsAgree.loadMemory_untested (.loadTables _) untested).startOrClose.selector
  | memoryWrite _ =>
    rw [memoryWriteCompletes, finishMemoryWrite_eq]
    exact VerdictsAgree.finishClosing fits
  | tablesWrite _ =>
    rw [finishTablesWrite_eq]
    exact VerdictsAgree.endOfWork fits
  | reload mayComplete =>
    have untested := VerdictsAgree.loadTables_untested (s := endOp s)
      (fits.rest (.inr (state_of_mayComplete work mayComplete)))
    exact VerdictsAgree.endOfWork (VerdictsFit.untested _ _ (.loadTables _) untested)
  | tail _ | ignition _ | proveOut _ | stretch _ | flash _ => exact fits
  | success _ => exact (VerdictsAgree.completeItem _ (s := endAttempt _ s) fits).selector
  | failure _ => exact fits.attemptFails
  | outbid _ => exact VerdictsAgree.selector (s := endAttempt _ s) fits
  | offlineEnd _ =>
    exact (VerdictsAgree.takeSample _ _ (s := s.setTx { s.tx with offline := none, errorCount := 0 }) fits).selector
  | beacon _ => exact VerdictsAgree.selector (s := s.setTx _) fits
  | answer c r u _ => exact VerdictsAgree.selector (s := respond c r [] (s.setFreeUses u)) fits
  | request _ permitted => exact (fits.carryOut _ permitted).selector

end Sys2Proof.Proofs
end

section
/-!
PROOFS. Lamps that are asked to be lit are lit (R139 to R147).
-/

namespace Sys2Proof.Proofs

open Sys2Proof.Machine

/-! ### The invariant in propositions -/

/-- A lamp that is asked to be lit is lit. -/
structure Lit (unconfigured : Bool) (l : LampState) : Prop where
  stretched : l.stretched ≠ some .off
  displayed : l.displayed = .off → l.effective = .off ∧ l.proveOut = false ∧ unconfigured = false

/-- The lamps carry the two requests, and each is lit where it is asked to be. -/
structure LampsFit (engineRequest absRequest : Pattern) (unconfigured : Bool) (l : LampDriver) : Prop where
  engineRequest : l.engine.request = engineRequest
  absRequest : l.abs.request = absRequest
  engine : Lit unconfigured l.engine
  abs : Lit unconfigured l.abs

/-- What `lampsKept` says. -/
def LampsAgree (s : State) : Prop :=
  s.ride.state.isRunning = true → LampsFit (engineRequest s) (absRequest s) s.mgmt.unconfigured s.lamps

theorem lampLit_iff (s : State) (l : LampState) : lampLit s l = true ↔ Lit s.mgmt.unconfigured l := by
  simp only [lampLit, Bool.and_eq_true, bne_iff_ne, Bool.or_eq_true, beq_iff_eq, Bool.not_eq_true', and_assoc,
    ne_eq]
  exact ⟨fun ⟨s, d⟩ => ⟨s, fun off => d.resolve_left (· off)⟩, fun ⟨s, d⟩ => ⟨s, (em _).symm.imp_right d⟩⟩

theorem lampsKept_iff (s : State) : lampsKept s = true ↔ LampsAgree s := by
  simp only [lampsKept, Bool.or_eq_true, Bool.not_eq_true', Bool.and_eq_true, beq_iff_eq, lampLit_iff,
    ← Bool.not_eq_true, ← imp_iff_not_or]
  exact forall_congr' fun _ => ⟨fun ⟨⟨⟨er, ar⟩, e⟩, a⟩ => ⟨er, ar, e, a⟩, fun ⟨er, ar, e, a⟩ => ⟨⟨⟨er, ar⟩, e⟩, a⟩⟩

/-- The requests read the definitions, the records and which faults are FAILING (R139, R140). -/
theorem requests_congr {s t : State} (tables : t.tables = s.tables) (records : t.memory.records = s.memory.records)
    (failing : ∀ f, isFailing t f = isFailing s f) :
    engineRequest t = engineRequest s ∧ absRequest t = absRequest s := by
  have same : isFailing t = isFailing s := funext failing
  have confirmed : hasConfirmed t = hasConfirmed s := by
    funext f
    rw [hasConfirmed, hasConfirmed, records]
  have faults : someFault t = someFault s := by
    funext p
    rw [someFault, someFault, tables]
  rw [engineRequest, engineRequest, absRequest, absRequest, same, confirmed, faults]
  exact ⟨rfl, rfl⟩

/-! ### The Lamp Driver's operations -/

/-- Bringing a lamp up to date in a ride leaves it lit where it is asked to be (R144, R147). -/
theorem lit_refreshLamp {s : State} {l : LampState} (running : s.ride.state.isRunning = true)
    (stretched : l.stretched ≠ some .off) : Lit s.mgmt.unconfigured (refreshLamp s l) := by
  have notConfigure : s.ride.state ≠ .configure := by
    intro configure
    rw [configure] at running
    cases running
  obtain ⟨holds, follows⟩ := refreshLamp_spec s l
  by_cases held : s.ride.band = .deep ∧ s.ride.state.isRunning = true ∧
      ¬(s.mgmt.unconfigured = true ∨ l.proveOut = true) ∧ l.displayed ≠ .off
  · rw [holds held]
    exact ⟨stretched, fun off => absurd off held.2.2.2⟩
  · rw [follows held]
    refine ⟨stretched, fun off => ?_⟩
    simp only [notConfigure, running, if_false, Bool.true_eq_false] at off
    split at off
    · cases off
    next unforced =>
      rw [not_or, Bool.not_eq_true, Bool.not_eq_true] at unforced
      exact ⟨off, unforced.2, unforced.1⟩

theorem changeRequest_stretched (n : Nat) (running : Bool) (p : Pattern) {l : LampState} :
    (l.changeRequest n running p).stretched ≠ some .off := by
  unfold LampState.changeRequest
  split_ifs with _ off
  · simp
  · simp
  · simpa using off
  · simp
  · simp

/-- A change of request in a ride leaves the lamp lit where it is asked to be. -/
theorem lit_updateLamp {s : State} (p : Pattern) {l : LampState} (running : s.ride.state.isRunning = true)
    (lit : Lit s.mgmt.unconfigured l) : Lit s.mgmt.unconfigured (updateLamp s p l) := by
  unfold updateLamp
  split
  · exact lit
  · exact lit_refreshLamp running (changeRequest_stretched _ _ _)

namespace LampsAgree

/-- Nothing is asked of the lamps outside the running states. -/
theorem of_stopped {s : State} (stopped : s.ride.state.isRunning = false) : LampsAgree s := fun running => by
  cases stopped.symm.trans running

theorem congr {s t : State} (tables : t.tables = s.tables) (records : t.memory.records = s.memory.records)
    (failing : ∀ f, isFailing t f = isFailing s f) (lamps : t.lamps = s.lamps)
    (unconfigured : t.mgmt.unconfigured = s.mgmt.unconfigured)
    (running : t.ride.state.isRunning = true → s.ride.state.isRunning = true) (fits : LampsAgree s) :
    LampsAgree t := by
  intro runs
  obtain ⟨er, ar, e, a⟩ := fits (running runs)
  obtain ⟨engine, abs⟩ := requests_congr tables records failing
  exact ⟨by rw [lamps, engine, er], by rw [lamps, abs, ar], by rw [lamps, unconfigured]; exact e,
    by rw [lamps, unconfigured]; exact a⟩

/-- The Lamp Driver, told, computes both requests. -/
theorem updateLamps {s : State} (lit : s.ride.state.isRunning = true →
    Lit s.mgmt.unconfigured s.lamps.engine ∧ Lit s.mgmt.unconfigured s.lamps.abs) :
    LampsAgree (Machine.updateLamps s) := fun running =>
  ⟨updateLamp_request s _ _, updateLamp_request s _ _, lit_updateLamp _ running (lit running).1,
    lit_updateLamp _ running (lit running).2⟩

/-- Told after an event that left the lamps, the ride state and UNCONFIGURED. -/
theorem told {s t : State} (fits : LampsAgree s) (lamps : t.lamps = s.lamps) (mgmt : t.mgmt = s.mgmt)
    (ride : t.ride = s.ride) : LampsAgree (Machine.updateLamps t) := by
  refine updateLamps fun running => ?_
  rw [ride] at running
  rw [lamps, mgmt]
  exact ⟨(fits running).engine, (fits running).abs⟩

/-- Lamps brought up to date whose requests stand. -/
theorem refresh {s : State} {l : LampDriver} (fits : LampsAgree s) (engineRequest : l.engine.request = s.lamps.engine.request)
    (absRequest : l.abs.request = s.lamps.abs.request)
    (engine : s.ride.state.isRunning = true → Lit s.mgmt.unconfigured l.engine)
    (abs : s.ride.state.isRunning = true → Lit s.mgmt.unconfigured l.abs) : LampsAgree (s.setLamps l) :=
  fun running => ⟨engineRequest.trans (fits running).engineRequest, absRequest.trans (fits running).absRequest,
    engine running, abs running⟩

theorem takeSample (src : Source) (x : Finding) {s : State} (fits : LampsAgree s) :
    LampsAgree (Machine.takeSample src x s) := by
  rcases takeSample_cases src x s with same | ⟨f, d, -, -, counted⟩
  · rw [same]; exact fits
  rw [counted]
  have effect := countSample_counted f d x s
  generalize countSample f d x s = t at effect
  cases effect with
  | entry _ _ =>
    have frame := memoryEnterFailing_frame f d (setFaultRt f (nextRuntime d x (s.faultRt.at f)) s)
    exact fits.told (memoryEnterFailing_lamps f d _) frame.mgmt frame.ride
  | heals _ _ => exact fits.told rfl rfl rfl
  | moves stays =>
    refine congr (s := s) rfl rfl (fun g => ?_) rfl rfl id fits
    simp only [isFailing, setFaultRt_faultRt, Table.at_put]
    split
    next same =>
      rw [← same, Bool.eq_iff_iff, beq_iff_eq, beq_iff_eq]
      exact stays
    · rfl

theorem refreshLamp_request (s : State) (l : LampState) : (refreshLamp s l).request = l.request := by
  unfold refreshLamp LampState.display
  split_ifs <;> rfl

theorem absReady {s : State} (fits : LampsAgree s) : LampsAgree (endAbsProveOut s) :=
  fits.refresh (refreshLamp_request _ _) (refreshLamp_request _ _)
    (fun running => lit_refreshLamp running (fits running).engine.stretched)
    (fun running => lit_refreshLamp running (fits running).abs.stretched)

theorem stable : Stable LampsAgree where
  sample src x _ := takeSample src x
  notice _ _ h := h
  selector h := by rw [runSelector_eq_with_attempt]; exact h
  begins cls _ h := by unfold beginClass; split <;> exact h
  ends cls _ h := by unfold endClass; dsimp only; split <;> exact h
  freeUses _ _ h := h
  chassis _ _ _ h := h
  arrival _ h := h
  reload _ h := h
  watchRt _ _ h := h
  substitute w e _ h := by
    unfold offerSubstitute
    split
    · split <;> exact h
    · exact h
  offer _ _ _ _ h := h
  enqueue _ _ _ h := by unfold enqueueFrame; split <;> exact h
  signal _ _ _ _ h := h
  histories _ _ h := h
  engine new s running _ h := congr (s := s) rfl rfl (fun _ => rfl) rfl rfl (fun _ => running) h
  speed h := h
  absReady h := absReady h
  vote _ _ h := h

/-! ### Ride start, closure and the records -/

theorem selector {s : State} (fits : LampsAgree s) : LampsAgree (runSelector s) := stable.selector fits

theorem respond (c : Byte) (r : Result) (d : List Byte) {s : State} (fits : LampsAgree s) :
    LampsAgree (Machine.respond c r d s) := fits

theorem setNotices_lamps (fs : List (Fin 64)) (s : State) : (setNotices fs s).lamps = s.lamps := by
  rw [setNotices_eq]

theorem removeRecords (p : FaultRecord → Bool) {s : State} (fits : LampsAgree s) :
    LampsAgree (Machine.removeRecords p s) := by
  unfold Machine.removeRecords
  dsimp only
  split
  · exact fits
  · have frame := setNotices_frame ((s.memory.records.filter p).map (·.fault))
      (changeRecords (s.memory.records.filter fun r => !p r) s)
    exact fits.told (setNotices_lamps _ _) frame.mgmt frame.ride

theorem rideStart (s : State) : LampsAgree (Machine.rideStart s) := by
  unfold Machine.rideStart
  refine stable.samples _ (stable.notices _ fun _ => ⟨rfl, rfl, ?_, ?_⟩)
  · exact ⟨by simp [lampsAtRideStart, LampState.atRideStart], by simp [lampsAtRideStart, LampState.atRideStart]⟩
  · exact ⟨by simp [lampsAtRideStart, LampState.atRideStart], by simp [lampsAtRideStart, LampState.atRideStart]⟩

theorem finishClosing_stopped (s : State) : (finishClosing s).ride.state.isRunning = false := by
  unfold finishClosing
  split
  · rw [enterAsleep_eq]; rfl
  · rw [enterSettling_eq]; rfl

theorem enterClosing_stopped (s : State) : (enterClosing s).ride.state.isRunning = false := by
  unfold enterClosing
  extract_lets qualified u v
  have closed : u.ride.state = .closing := by
    simp only [u]
    rw [closingValues_eq]
  have processed : v.ride.state = .closing := by
    simp only [v]
    split
    · have frame := closeRecords_frame ((u.setRide { u.ride with
        rideNumber := min (u.ride.rideNumber + 1) 65535 }).setMemory { u.memory with dirty := true })
      rw [qualifiedClosure, frame.ride]
      exact closed
    · exact closed
  split
  · rw [beginMemoryWrite_eq]
    dsimp only
    rw [processed]
    rfl
  · exact finishClosing_stopped v

theorem startOrClose (s : State) : LampsAgree (Machine.startOrClose s) := by
  unfold Machine.startOrClose
  split
  · exact rideStart s
  · exact of_stopped (enterClosing_stopped s)

theorem ignChanged (level : Level) {s : State} (fits : LampsAgree s) : LampsAgree (Machine.ignChanged level s) := by
  unfold Machine.ignChanged
  split
  · rw [enterSettling_eq]
    exact of_stopped rfl
  · exact of_stopped (enterClosing_stopped s)
  · exact of_stopped (enterClosing_stopped s)
  · exact of_stopped (enterClosing_stopped s)
  · split
    · exact fits
    · exact of_stopped (enterClosing_stopped s)
    · exact of_stopped (enterClosing_stopped s)
  all_goals exact fits

theorem endOfWork (s : State) : LampsAgree (Machine.endOfWork s) := selector (startOrClose _)

theorem classFollowsBand {old new : Band} {s : State} (fits : LampsAgree s) :
    LampsAgree (Machine.classFollowsBand old new s) := by
  obtain ⟨c, followed⟩ := classFollowsBand_eq old new s
  rw [followed]
  exact fits

/-- The Lamp Driver brings both patterns up to date where DEEP ends (R147). -/
theorem refreshLamps {s : State} (fits : LampsAgree s) : LampsAgree (Machine.refreshLamps s) :=
  fits.refresh (refreshLamp_request _ _) (refreshLamp_request _ _)
    (fun running => lit_refreshLamp running (fits running).engine.stretched)
    (fun running => lit_refreshLamp running (fits running).abs.stretched)

theorem bandChanged (new : Band) {s : State} (fits : LampsAgree s) : LampsAgree (Machine.bandChanged new s) := by
  have followed : LampsAgree (Machine.classFollowsBand s.ride.band new
      (s.setRide { s.ride with band := new })) := classFollowsBand (s := s.setRide _) fits
  unfold Machine.bandChanged
  dsimp only
  split
  · exact followed.refreshLamps
  · exact followed

/-! ### Requests -/

/-- An entry stored or erased in CONFIGURE asks nothing of the lamps. -/
theorem edited {s : State} (configure : s.ride.state = .configure) : LampsAgree s :=
  of_stopped (by rw [configure]; rfl)

theorem eraseEntryAt (entry : EntryRef) {s : State} (configure : s.ride.state = .configure) :
    LampsAgree (Machine.eraseEntryAt entry s) := by
  cases entry with
  | signal i => exact stable.replaceSignal i none (edited configure)
  | _ => exact edited configure

theorem storeEntry (entry : EntryRef) {s t : State} {data : List Byte} (configure : s.ride.state = .configure)
    (stored : storeEntryOutcome entry s = .inr (t, data)) : LampsAgree t := by
  cases entry with
  | watch i =>
    obtain ⟨e, -, -, rfl, -⟩ := GatesAndOperations.storeOutcome_stored stored
    exact edited configure
  | signal i =>
    obtain ⟨e, -, -, rfl, -⟩ := GatesAndOperations.storeOutcome_stored stored
    exact stable.replaceSignal i (some e) (edited configure)
  | vote k =>
    obtain ⟨e, -, -, rfl, -⟩ := GatesAndOperations.storeOutcome_stored stored
    exact edited configure
  | fault f =>
    obtain ⟨e, -, -, rfl, -⟩ := GatesAndOperations.storeOutcome_stored stored
    exact edited configure
  | settings =>
    simp only [storeEntryOutcome] at stored
    split at stored <;> cases stored
    exact edited configure

theorem carryOut (r : Request) {s : State} (fits : LampsAgree s) (permitted : Request.fits s.ride.state r) :
    LampsAgree (Machine.carryOut r s) := by
  cases r with
  | status | readFault _ | readBuffer _ => exact fits.respond _ _ _
  | writeBuffer offset data => exact respond (s := s.setMgmt _) _ _ _ fits
  | setNoticeMask level enables => exact respond (s := s.setTx _) _ _ _ fits
  | readSignal i =>
    simp only [Machine.carryOut, doReadSignal]
    split <;> exact fits.respond _ _ _
  | peekMonitor w =>
    simp only [Machine.carryOut, doPeekMonitor]
    split <;> exact fits.respond _ _ _
  | fetchRecord k =>
    simp only [Machine.carryOut, doFetchRecord]
    split
    · exact fits.respond _ _ _
    · exact respond (s := fillBuffer _ s) _ _ _ fits
  | clearRecords mask => exact fits.removeRecords _
  | enterConfigure =>
    simp only [Machine.carryOut, doEnterConfigure]
    split
    · rw [enterConfigure_eq]
      exact respond _ _ _ (edited rfl)
    · exact fits.respond _ _ _
  | leaveConfigure commit =>
    simp only [Machine.carryOut, doLeaveConfigure]
    split
    · unfold doCommit
      split
      · exact fits.respond _ _ _
      · rw [beginTablesWrite_eq]
        exact removeRecords (orphanRecord s) (s := beginWork _ s) fits
    · exact fits
  | storeEntry e =>
    simp only [Machine.carryOut, doStoreEntry]
    split
    · exact fits.respond _ _ _
    · exact (storeEntry e permitted ‹_›).respond _ _ _
  | fetchEntry e =>
    simp only [Machine.carryOut, doFetchEntry]
    split
    · exact fits.respond _ _ _
    · exact respond (s := fillBuffer _ s) _ _ _ fits
  | eraseEntry e => exact (eraseEntryAt e permitted).respond _ _ _

/-! ### Expiries, attempts and ticks -/

/-- One lamp replaced by one with its request, lit where it is asked to be. -/
theorem putLamp (lamp : Lamp) {s : State} {l : LampState} (fits : LampsAgree s)
    (request : l.request = (s.lamps.get lamp).request)
    (lit : s.ride.state.isRunning = true → Lit s.mgmt.unconfigured (s.lamps.get lamp) → Lit s.mgmt.unconfigured l) :
    LampsAgree (s.setLamps (s.lamps.put lamp l)) := by
  cases lamp with
  | engine => exact fits.refresh request rfl (fun r => lit r (fits r).engine) fun r => (fits r).abs
  | abs => exact fits.refresh rfl request (fun r => (fits r).engine) fun r => lit r (fits r).abs

theorem expireStretch (lamp : Lamp) {s : State} (fits : LampsAgree s) : LampsAgree (Machine.expireStretch lamp s) :=
  fits.putLamp lamp (refreshLamp_request _ _) fun running _ => lit_refreshLamp running (by simp)

theorem expireFlash (lamp : Lamp) {s : State} (fits : LampsAgree s) : LampsAgree (Machine.expireFlash lamp s) :=
  fits.putLamp lamp rfl fun _ lit => ⟨lit.stretched, lit.displayed⟩

theorem expireProveOut {s : State} (fits : LampsAgree s) : LampsAgree (Machine.expireProveOut s) :=
  fits.refresh (refreshLamp_request _ _) (refreshLamp_request _ _)
    (fun running => lit_refreshLamp running (fits running).engine.stretched)
    (fun running => lit_refreshLamp running (fits running).abs.stretched)

theorem completeItem (a : Attempt) {s : State} (fits : LampsAgree s) : LampsAgree (Machine.completeItem a s) := by
  unfold Machine.completeItem
  split
  · exact fits
  · split <;> exact fits
  · exact fits
  · exact fits
  · split <;> exact fits
  · exact fits

theorem attemptFails {s : State} (fits : LampsAgree s) : LampsAgree (Machine.attemptFails s) := by
  unfold Machine.attemptFails
  extract_lets u
  split
  · exact takeSample _ _ (s := u.setTx { u.tx with offline := some 100 }) fits
  · exact selector (s := u) fits

/-- A lamp's timers count without a change of its request or of its display. -/
theorem lit_tick {b : Bool} {l : LampState} (lit : Lit b l) : Lit b l.tick := ⟨lit.stretched, lit.displayed⟩

/-- A tick leaves the requests' sources and counts the lamps' timers at most. -/
theorem ofTick {s t : State} (fits : LampsAgree s) (tables : t.tables = s.tables) (memory : t.memory = s.memory)
    (faultRt : t.faultRt = s.faultRt) (mgmt : t.mgmt = s.mgmt) (state : t.ride.state = s.ride.state)
    (lamps : t.lamps = s.lamps ∨ t.lamps = s.lamps.tick) : LampsAgree t := by
  intro running
  rw [state] at running
  obtain ⟨er, ar, e, a⟩ := fits running
  obtain ⟨engine, abs⟩ := requests_congr (s := s) (t := t) tables (by rw [memory]) fun f => by
    rw [isFailing, isFailing, faultRt]
  rw [engine, abs, mgmt]
  rcases lamps with lamps | lamps
  · rw [lamps]; exact ⟨er, ar, e, a⟩
  · rw [lamps]; exact ⟨er, ar, lit_tick e, lit_tick a⟩

theorem tickTimers {s : State} (fits : LampsAgree s) : LampsAgree (Machine.tickTimers s) := by
  have held : (tickHeldTimers s).tables = s.tables ∧ (tickHeldTimers s).memory = s.memory ∧
      (tickHeldTimers s).faultRt = s.faultRt ∧ (tickHeldTimers s).mgmt = s.mgmt ∧
      (tickHeldTimers s).ride.state = s.ride.state ∧
      ((tickHeldTimers s).lamps = s.lamps ∨ (tickHeldTimers s).lamps = s.lamps.tick) := by
    unfold tickHeldTimers
    split <;> simp
  obtain ⟨tables, memory, faultRt, mgmt, state, lamps⟩ := held
  exact fits.ofTick (by simpa [Machine.tickTimers, tickFreeTimers] using tables)
    (by simpa [Machine.tickTimers, tickFreeTimers] using memory)
    (by simpa [Machine.tickTimers, tickFreeTimers] using faultRt)
    (by simpa [Machine.tickTimers, tickFreeTimers] using mgmt)
    (by simpa [Machine.tickTimers, tickFreeTimers] using state)
    (by simpa [Machine.tickTimers, tickFreeTimers] using lamps)

end LampsAgree

/-- A CONFIRMED record of an ABS fault asks for the ABS lamp, so it is lit (R140). -/
theorem abs_lit_of_confirmed {s : State}
    (fits : LampsFit (engineRequest s) (absRequest s) s.mgmt.unconfigured s.lamps) {r : FaultRecord} (held : r ∈ s.memory.records)
    (status : r.status = .confirmed) {d : FaultDef} (defined : s.tables.faults.at r.fault = some d)
    (lamp : d.lamp = .abs) : s.lamps.abs.displayed ≠ .off := by
  intro off
  obtain ⟨effective, -, -⟩ := fits.abs.displayed off
  have requested : s.lamps.abs.request ≠ .off := by
    rw [fits.absRequest]
    exact (absRequest_lit_iff s).2.mpr ⟨r.fault, d, defined, lamp, .inl ⟨r, held, status, rfl⟩⟩
  cases stretched : s.lamps.abs.stretched with
  | none => exact requested (by simpa [LampState.effective, stretched] using effective)
  | some p =>
    rw [LampState.effective, stretched] at effective
    exact fits.abs.stretched (stretched.trans (congrArg some effective))

/-- Settles O59: whatever changes a verdict or a record in a ride tells the Lamp Driver, whose operations leave each
lamp lit that is asked to be. -/
theorem stepKeepsLampsLit : Obligations.StepKeepsLampsLit := by
  refine ⟨fun s t fits stepped => ?_, fun s fits running r held status d defined lamp =>
    abs_lit_of_confirmed ((lampsKept_iff s).mp fits running) held status defined lamp⟩
  obtain ⟨rest, effect⟩ := step_effect stepped
  rw [lampsKept_iff] at fits ⊢
  replace fits : LampsAgree (s.setPending rest) := fits
  generalize s.setPending rest = s at fits effect
  have stable := LampsAgree.stable
  cases effect with
  | idle => exact fits
  | tick waiting _ => exact fits.tickTimers
  | powerOnReset | leaveReset _ _ => exact .of_stopped rfl
  | frame id _ short => exact stable.takeFrame id short fits
  | busError _ => exact stable.takeBusError fits
  | silence _ => exact stable.silenceExpires fits
  | monitor timed _ => exact (stable.monitorExpires timed fits).selector
  | period timed _ => exact (stable.periodExpires timed fits).selector
  | vote rule due => exact (stable.voteExpires rule due fits).selector
  | pins _ => exact fits
  | ignChange level pins =>
    exact (LampsAgree.ignChanged level
      (s := (s.setPins pins).setRide { s.ride with ign := level, ignCount := 0 }) fits).selector
  | bandChange new pins => exact LampsAgree.bandChanged new (s := s.setPins pins) fits
  | load _ => exact (LampsAgree.startOrClose _).selector
  | memoryWrite _ => exact .of_stopped (LampsAgree.finishClosing_stopped _)
  | tablesWrite _ => exact .endOfWork _
  | reload _ => exact .endOfWork _
  | tail _ | ignition _ => exact fits
  | proveOut _ => exact fits.expireProveOut
  | stretch _ => exact fits.expireStretch _
  | flash _ => exact fits.expireFlash _
  | success _ => exact (LampsAgree.completeItem _ (s := endAttempt _ s) fits).selector
  | failure _ => exact fits.attemptFails
  | outbid _ => exact LampsAgree.selector (s := endAttempt _ s) fits
  | offlineEnd _ =>
    exact (LampsAgree.takeSample _ _ (s := s.setTx { s.tx with offline := none, errorCount := 0 }) fits).selector
  | beacon _ => exact LampsAgree.selector (s := s.setTx _) fits
  | answer c r u _ => exact LampsAgree.selector (s := respond c r [] (s.setFreeUses u)) fits
  | request _ permitted => exact (fits.carryOut _ permitted).selector

end Sys2Proof.Proofs
end

section
/-!
PROOFS. Images decode to what they were written from (sections 12.4 and 12.5, R178, R194).
-/

namespace Sys2Proof.Proofs

open Sys2Proof.Machine

/-! ### Numbers in bytes -/

theorem toNat_byteOf {n : Nat} (small : n < 256) : (byteOf n).toNat = n := by
  simp [byteOf, Nat.mod_eq_of_lt small]

theorem u16_of_bytes {n : Nat} (small : n ≤ 65535) : u16 (byteOf n) (byteOf (n / 256)) = n := by
  simp [u16, byteOf]
  omega

theorem s16_of_twos16 {v : Int} (range : isEngineering v = true) :
    s16 (byteOf (twos16 v)) (byteOf (twos16 v / 256)) = v := by
  simp only [isEngineering, Bool.and_eq_true, decide_eq_true_eq] at range
  have small : twos16 v ≤ 65535 := by
    unfold twos16
    omega
  unfold s16
  rw [u16_of_bytes small]
  unfold twos16
  split_ifs <;> omega

theorem s8_of_twos8 {v : Int} (low : -128 ≤ v) (high : v ≤ 127) : s8 (byteOf (twos8 v)) = v := by
  have small : twos8 v < 256 := by
    unfold twos8
    omega
  unfold s8
  rw [toNat_byteOf small]
  unfold twos8
  split_ifs <;> omega

theorem indexOf_byteOf {n : Nat} (small : n ≤ 256) (i : Fin n) : indexOf n (byteOf i.val).toNat = some i := by
  rw [toNat_byteOf (by omega), indexOf, dif_pos i.isLt]

/-! ### Codes of section 12.1 -/

theorem mode_ofCode (m : MonitorMode) : MonitorMode.ofCode (byteOf m.code).toNat = some m := by cases m <;> rfl

theorem gate_ofCode (g : Gate) : Gate.ofCode (byteOf g.code).toNat = some g := by cases g <;> rfl

theorem policy_ofCode (p : ForwardPolicy) : ForwardPolicy.ofCode (byteOf p.code).toNat = some p := by
  cases p <;> rfl

theorem signedness_ofCode (x : Signedness) : Signedness.ofCode (byteOf x.code).toNat = some x := by cases x <;> rfl

theorem role_ofCode (r : Role) : Role.ofCode (byteOf r.code).toNat = some r := by cases r <;> rfl

theorem group_ofCode (g : Group) : Group.ofCode (byteOf g.code).toNat = some g := by cases g <;> rfl

theorem lampField_ofCode (l : LampField) : LampField.ofCode (byteOf l.code).toNat = some l := by cases l <;> rfl

theorem source_ofCodes (src : Source) :
    Source.ofCodes (byteOf src.kindCode).toNat (byteOf src.indexCode).toNat = some src := by
  cases src with
  | frame kind i =>
    have index := indexOf_byteOf (by decide) i
    cases kind <;> exact congrArg (Option.map _) index
  | signal kind i =>
    have index := indexOf_byteOf (by decide) i
    cases kind <;> exact congrArg (Option.map _) index
  | vote kind k =>
    have index := indexOf_byteOf (by decide) k
    cases kind <;> exact congrArg (Option.map _) index
  | portDown port => cases port <;> rfl
  | storeLost => rfl

theorem groupMask_ofByte (m : GroupMask) : GroupMask.ofByte m.toByte = m := by
  rcases m with ⟨_ | _, _ | _, _ | _, _ | _⟩ <;> rfl

theorem blankingMask_ofByte (m : BlankingMask) : BlankingMask.ofByte m.toByte = m := by
  rcases m with ⟨_ | _, _ | _, _ | _, _ | _, _ | _⟩ <;> rfl

/-- The optional alive field of a watch image (section 12.4). -/
theorem alive_ofByte (a : Option AliveField) :
    let b := match a with | none => (0 : Byte) | some a => a.toByte
    (if bitOf b 7 then some (⟨payloadIndex b, bitOf b 3⟩ : AliveField) else none) = a := by
  rcases a with _ | ⟨i, high⟩
  · rfl
  · revert high i
    decide

/-- An optional payload byte of a watch image (section 12.4). -/
theorem payloadIndex_ofByte (i : Fin 8) : bitOf (byteOf (128 + i.val)) 7 = true ∧
    payloadIndex (byteOf (128 + i.val)) = i := by
  revert i
  decide

/-- The flags of a fault image (section 12.4). -/
theorem flags_ofByte (a b c d : Bool) : let flags := byteOf (packBits [a, b, c, d])
    bitOf flags 0 = a ∧ bitOf flags 1 = b ∧ bitOf flags 2 = c ∧ bitOf flags 3 = d := by
  revert a b c d
  decide

/-- The flags of a record image (section 12.5). -/
theorem recordFlags_ofByte (st : RecordStatus) (rs : RideState) (b : Band) :
    let flags := (byteOf (st.code + 4 * rs.code + 32 * b.code)).toNat
    RecordStatus.ofCode (flags % 4) = some st ∧ RideState.ofCode (flags / 4 % 8) = some rs ∧
      Band.ofCode (flags / 32 % 4) = some b := by
  cases st <;> cases rs <;> cases b <;> exact ⟨rfl, rfl, rfl⟩

/-! ### Entries -/

theorem watchEntry_image_length (e : WatchEntry) : e.image.length = 17 := rfl

theorem signalEntry_image_length (e : SignalEntry) : e.image.length = 17 := rfl

theorem voteRule_image_length (e : VoteRule) : e.image.length = 11 := rfl

theorem settings_image_length (e : Settings) : e.image.length = 24 := rfl

theorem padTo_length {n : Nat} {bs : List Byte} (fits : bs.length ≤ n) : (padTo n bs).length = n := by
  simp [padTo]
  omega

theorem faultDef_image_length {e : FaultDef} (legal : e.legal = true) : e.image.length = 20 := by
  simp only [FaultDef.legal, Bool.and_eq_true, decide_eq_true_eq] at legal
  have list := padTo_length (n := 6) (bs := e.capture.map fun i => byteOf i.val) (by simpa using legal.2)
  simp [FaultDef.image, list]

/-- A legal value passes the check of its image. -/
theorem require_legal {α : Type} (legal : α → Bool) {c : Bool} {x y : α} (same : x = y) (holds : c = true)
    (fits : legal y = true) : require (c && legal x) x = some y := by
  subst same
  simp [require, holds, fits]

theorem watchEntry_ofImage {e : WatchEntry} (legal : e.legal = true) : WatchEntry.ofImage e.image = some e := by
  have fields := legal
  simp only [WatchEntry.legal, Bool.and_eq_true, decide_eq_true_eq] at fields
  obtain ⟨⟨⟨⟨⟨len, deadline⟩, interval⟩, -⟩, burst⟩, allowance⟩ := fields
  have id : e.identifier.toNat < 2048 := e.identifier.isLt
  have alive := alive_ofByte e.alive
  have sum : (if bitOf (match e.checksum with | none => 0 | some c => byteOf (128 + c.byte.val)) 7 then
      some (⟨payloadIndex (match e.checksum with | none => 0 | some c => byteOf (128 + c.byte.val)),
        match e.checksum with | none => 0 | some c => c.seed⟩ : ChecksumByte) else none) = e.checksum := by
    rcases e.checksum with _ | ⟨i, seed⟩
    · rfl
    · obtain ⟨present, index⟩ := payloadIndex_ofByte i
      dsimp only
      rw [if_pos present, index]
  have stale : (if bitOf (match e.staleMarker with | none => 0 | some i => byteOf (128 + i.val)) 7 then
      some (payloadIndex (match e.staleMarker with | none => 0 | some i => byteOf (128 + i.val))) else none) =
      e.staleMarker := by
    rcases e.staleMarker with _ | i
    · rfl
    · obtain ⟨present, index⟩ := payloadIndex_ofByte i
      dsimp only
      rw [if_pos present, index]
  simp only [WatchEntry.image, le16, List.cons_append, List.nil_append, WatchEntry.ofImage]
  rw [mode_ofCode, gate_ofCode, policy_ofCode, u16_of_bytes (by omega), u16_of_bytes (by omega),
    u16_of_bytes (by omega), u16_of_bytes (by omega), toNat_byteOf (by omega), toNat_byteOf (by omega)]
  have built : (⟨BitVec.ofNat 11 e.identifier.toNat, e.expectedLength, e.mode, e.deadline, e.minimumInterval,
      e.burstLimit, e.startAllowance, e.gate, e.alive, e.checksum, e.policy, e.staleMarker⟩ : WatchEntry) = e := by
    rw [BitVec.ofNat_toNat, BitVec.setWidth_eq]
  dsimp only [Option.bind_eq_bind, Option.bind_some]
  refine require_legal WatchEntry.legal (Eq.trans ?_ built) (by simpa using Nat.le_of_lt_succ id) legal
  congr 1

theorem signalEntry_ofImage {e : SignalEntry} (legal : e.legal = true) : SignalEntry.ofImage e.image = some e := by
  have fields := legal
  simp only [SignalEntry.legal, Bool.and_eq_true, decide_eq_true_eq] at fields
  obtain ⟨⟨⟨⟨⟨⟨⟨⟨⟨⟨start, -⟩, length⟩, gain⟩, shift⟩, offset⟩, low⟩, high⟩, step⟩, frozen⟩, -⟩ := fields
  simp only [SignalEntry.image, le16, List.cons_append, List.nil_append, SignalEntry.ofImage]
  rw [indexOf_byteOf (by decide), signedness_ofCode, role_ofCode, s16_of_twos16 gain, s16_of_twos16 offset,
    s16_of_twos16 low, s16_of_twos16 high, u16_of_bytes step, toNat_byteOf (by omega), toNat_byteOf (by omega),
    toNat_byteOf (by omega), toNat_byteOf (by omega)]
  exact require_legal SignalEntry.legal (c := true) rfl rfl legal

theorem memberC_ofByte (c : Option (Fin 64)) :
    memberCOf (match c with | none => 0xFF | some c => byteOf c.val) = some c := by
  rcases c with _ | c
  · rfl
  · have notAbsent : byteOf c.val ≠ 0xFF := by
      intro same
      have bytes := congrArg BitVec.toNat same
      rw [toNat_byteOf (by omega)] at bytes
      have : c.val = 255 := bytes
      omega
    dsimp only
    rw [memberCOf, if_neg notAbsent, indexOf_byteOf (by decide)]
    rfl

theorem voteRule_ofImage {e : VoteRule} (legal : e.legal = true) : VoteRule.ofImage e.image = some e := by
  have fields := legal
  simp only [VoteRule.legal, Bool.and_eq_true, decide_eq_true_eq] at fields
  obtain ⟨⟨⟨⟨absolute, relative⟩, floor⟩, -⟩, period⟩ := fields
  have memberC := memberC_ofByte e.memberC
  simp only [VoteRule.image, le16, List.cons_append, List.nil_append, VoteRule.ofImage]
  rw [indexOf_byteOf (by decide), indexOf_byteOf (by decide), gate_ofCode, u16_of_bytes (by omega),
    u16_of_bytes (by omega), u16_of_bytes (by omega), toNat_byteOf (by omega)]
  dsimp only [Option.bind_eq_bind, Option.bind_some]
  refine Option.bind_eq_some_iff.mpr ⟨e.memberC, memberC, ?_⟩
  exact require_legal VoteRule.legal (c := true) rfl rfl legal

theorem captureOf_map (capture : List (Fin 64)) : captureOf (capture.map fun i => byteOf i.val) = some capture := by
  induction capture with
  | nil => rfl
  | cons i capture ih =>
    rw [List.map_cons, captureOf, indexOf_byteOf (by decide), ih]
    rfl

theorem take_padTo (n : Nat) (bs : List Byte) : (padTo n bs).take bs.length = bs := by
  simp [padTo]

theorem faultDef_ofImage {e : FaultDef} (legal : e.legal = true) : FaultDef.ofImage e.image = some e := by
  have fields := legal
  simp only [FaultDef.legal, Bool.and_eq_true, decide_eq_true_eq] at fields
  obtain ⟨⟨⟨⟨⟨⟨⟨⟨⟨⟨⟨⟨level, -⟩, up⟩, -⟩, down⟩, -⟩, confirm⟩, low⟩, high⟩, -⟩, off⟩, aging⟩, capture⟩ := fields
  have list := padTo_length (n := 6) (bs := e.capture.map fun i => byteOf i.val) (by simpa using capture)
  have taken := take_padTo 6 (e.capture.map fun i => byteOf i.val)
  rw [List.length_map] at taken
  obtain ⟨f0, f1, f2, f3⟩ := flags_ofByte e.jumpUp e.jumpDown e.twoRide e.immediateLamp
  simp only [FaultDef.image, List.cons_append, List.nil_append, FaultDef.ofImage]
  rw [source_ofCodes, group_ofCode, lampField_ofCode, toNat_byteOf (n := e.capture.length) (by omega), taken,
    captureOf_map, s8_of_twos8 (by omega) (by omega), toNat_byteOf (by omega), toNat_byteOf (by omega),
    toNat_byteOf (by omega), toNat_byteOf (by omega), toNat_byteOf (by omega), toNat_byteOf (by omega),
    blankingMask_ofByte, f0, f1, f2, f3]
  dsimp only [Option.bind_eq_bind, Option.bind_some]
  exact require_legal FaultDef.legal rfl (by simp [list, capture]) legal

theorem settings_ofImage {e : Settings} (clamped : e.clamped = e) : Settings.ofImage e.image = some e := by
  have fits : SettingsFit e := clamped ▸ settingsFit_clamped e
  obtain ⟨tail, ignition, silence, qualify, prove, stretch, beacon, level⟩ := fits
  have crank := tail .crank
  have supply := tail .lowSupply
  have abs := tail .absActive
  have port := tail .portDown
  simp only [Settings.tail] at crank supply abs port
  have speed : isEngineering e.qualifySpeed = true := by
    have same : clampSpeed e.qualifySpeed = e.qualifySpeed := congrArg Settings.qualifySpeed clamped
    rw [← same]
    simp only [isEngineering, Bool.and_eq_true, decide_eq_true_eq]
    unfold clampSpeed
    split_ifs <;> omega
  simp only [Settings.image, le16, List.cons_append, List.nil_append, Settings.ofImage]
  rw [s16_of_twos16 speed, groupMask_ofByte, toNat_byteOf (by omega)]
  repeat rw [u16_of_bytes (by omega)]

/-! ### Records -/

theorem faultOfNumber_byteOf (f : Fin 64) : faultOfNumber (byteOf (f.val + 1)).toNat = some f := by
  rw [toNat_byteOf (by omega), faultOfNumber, if_neg (by omega), Nat.add_sub_cancel, indexOf, dif_pos f.isLt]

theorem captureItem_ofByte (i : Fin 64) (valid : Bool) : let b := byteOf (i.val + if valid then 128 else 0)
    indexOf 64 (b.toNat % 64) = some i ∧ bitOf b 7 = valid := by
  revert i valid
  decide

theorem captureItemsOf_image {items : List CaptureItem} (legal : items.all CaptureItem.legal = true)
    (rest : List Byte) : captureItemsOf items.length (items.flatMap CaptureItem.image ++ rest) = some items := by
  induction items with
  | nil => rfl
  | cons c items ih =>
    rw [List.all_cons, Bool.and_eq_true] at legal
    obtain ⟨index, valid⟩ := captureItem_ofByte c.signal c.valid
    simp only [List.flatMap_cons, CaptureItem.image, le16, List.length_cons, List.cons_append, List.nil_append,
      captureItemsOf]
    rw [index, ih legal.2, valid, s16_of_twos16 legal.1]
    rfl

theorem faultRecord_ofImage {r : FaultRecord} (legal : r.legal = true) (rest : List Byte) :
    FaultRecord.ofImage (r.image ++ rest) = some r := by
  have fields := legal
  simp only [FaultRecord.legal, Bool.and_eq_true, decide_eq_true_eq] at fields
  obtain ⟨⟨⟨⟨⟨⟨⟨⟨-, occurrences⟩, first⟩, last⟩, good⟩, -⟩, clock⟩, count⟩, items⟩ := fields
  obtain ⟨status, state, band⟩ := recordFlags_ofByte r.status r.rideState r.band
  simp only [FaultRecord.image, le16, List.cons_append, List.nil_append, FaultRecord.ofImage]
  rw [faultOfNumber_byteOf, status, state, band, toNat_byteOf (n := r.signals.length) (by omega),
    captureItemsOf_image items, toNat_byteOf (by omega), toNat_byteOf (by omega), u16_of_bytes (by omega),
    u16_of_bytes (by omega), u16_of_bytes (by omega)]
  exact require_legal FaultRecord.legal rfl (by simpa using count) legal

/-- Settles O52: field by field, each number fits its bytes and each code names its value. -/
theorem imagesDecodeToTheirEntries : Obligations.ImagesDecodeToTheirEntries :=
  ⟨fun e legal => ⟨watchEntry_ofImage legal, watchEntry_image_length e⟩,
    fun e legal => ⟨signalEntry_ofImage legal, signalEntry_image_length e⟩,
    fun e legal => ⟨voteRule_ofImage legal, voteRule_image_length e⟩,
    fun _ legal => ⟨faultDef_ofImage legal, faultDef_image_length legal⟩,
    fun e clamped => ⟨settings_ofImage clamped, settings_image_length e⟩,
    fun _ legal _ => faultRecord_ofImage legal _⟩

end Sys2Proof.Proofs
end

section
/-!
PROOFS. A region written loads back (R184 to R186, section 12.6).
-/

namespace Sys2Proof.Proofs

open Sys2Proof.Machine

/-! ### Regions -/

/-- A byte of an area after bytes were written to it. -/
theorem read_writeBytes {d : Byte} {size a : Nat} {bs : List Byte} {m : List Host.Cell} (wf : Mem.wf d size m = true)
    (fits : a + bs.length ≤ size) (k : Nat) : Mem.read d (Mem.writeBytes d m a bs) k =
      if a ≤ k ∧ k < a + bs.length then bs.getD (k - a) d else Mem.read d m k := by
  induction bs generalizing a m with
  | nil =>
    rw [if_neg (by simp only [List.length_nil]; omega)]
    rfl
  | cons b bs ih =>
    simp only [List.length_cons] at fits ⊢
    rw [Mem.writeBytes, ih (Mem.write_wf b wf (by omega)) (by omega), Mem.read_write a k b wf]
    by_cases here : a = k
    · subst here
      rw [if_neg (by omega), if_pos rfl, if_pos (by omega), Nat.sub_self, List.getD_cons_zero]
    · by_cases inside : a + 1 ≤ k ∧ k < a + 1 + bs.length
      · rw [if_pos inside, if_pos (by omega), show k - a = k - (a + 1) + 1 by omega, List.getD_cons_succ]
      · rw [if_neg inside, if_neg here, if_neg (by omega)]

section

variable {size : Nat} {content : List Byte} {m : List Host.Cell}

/-- A byte of a region while a write is in progress (R185). -/
theorem read_regionBeginWrite (wf : Mem.wf storeFill (size + 3) m = true) (length : content.length = size) (k : Nat) :
    Mem.read storeFill (regionBeginWrite size content m) k =
      if k < size then content.getD k storeFill else if k = size + 2 then 0 else Mem.read storeFill m k := by
  rw [regionBeginWrite, read_writeBytes (Mem.write_wf 0 wf (by omega)) (by omega), Mem.read_write _ _ _ wf]
  by_cases inside : k < size
  · rw [if_pos (by omega), if_pos inside, Nat.sub_zero]
  · rw [if_neg (by omega), if_neg inside]
    by_cases state : k = size + 2
    · rw [if_pos state.symm, if_pos state]
    · rw [if_neg (Ne.symm state), if_neg state]

/-- The content of a region whose first bytes read as a content. -/
theorem regionContent_of_read {w : List Host.Cell} (length : content.length = size)
    (reads : ∀ k < size, Mem.read storeFill w k = content.getD k storeFill) : regionContent size w = content := by
  apply List.ext_getElem
  · simp [regionContent, length]
  · intro k _ inside
    have read := reads k (by omega)
    rw [List.getD_eq_getElem _ _ inside] at read
    simpa [regionContent, Mem.bytes] using read

theorem regionContent_begun (wf : Mem.wf storeFill (size + 3) m = true) (length : content.length = size) :
    regionContent size (regionBeginWrite size content m) = content :=
  regionContent_of_read length fun k inside => by rw [read_regionBeginWrite wf length, if_pos inside]

/-- A byte of a region once a write has completed: the content, the check value, the state byte (R185). -/
theorem read_regionWritten (wf : Mem.wf storeFill (size + 3) m = true) (length : content.length = size) (k : Nat) :
    Mem.read storeFill (regionEndWrite size (regionBeginWrite size content m)) k =
      if k < size then content.getD k storeFill
      else if k < size + 2 then (le16 (checkValue content)).getD (k - size) storeFill
      else if k = size + 2 then 1 else Mem.read storeFill m k := by
  have begun := regionBeginWrite_wf wf length
  have checked := Mem.writeBytes_wf (a := size) (le16 (checkValue content)) begun (by simp)
  rw [regionEndWrite, regionContent_begun wf length, Mem.read_write _ _ _ checked,
    read_writeBytes begun (by simp), read_regionBeginWrite wf length, le16_length]
  by_cases state : k = size + 2
  · rw [if_pos state.symm, if_neg (by omega), if_neg (by omega), if_pos state]
  · rw [if_neg (Ne.symm state), if_neg state, if_neg state]
    by_cases inside : k < size
    · rw [if_neg (by omega), if_pos inside, if_pos inside]
    · rw [if_neg inside, if_neg inside]
      by_cases check : k < size + 2
      · rw [if_pos (by omega), if_pos check]
      · rw [if_neg (by omega), if_neg check]

theorem regionContent_written (wf : Mem.wf storeFill (size + 3) m = true) (length : content.length = size) :
    regionContent size (regionEndWrite size (regionBeginWrite size content m)) = content :=
  regionContent_of_read length fun k inside => by rw [read_regionWritten wf length, if_pos inside]

/-- A region written from a content that is not all erased bytes is valid (R184). -/
theorem regionValid_written (wf : Mem.wf storeFill (size + 3) m = true) (length : content.length = size) {k : Nat}
    (inside : k < size) (notErased : content.getD k storeFill ≠ 0xFF) :
    regionValid size (regionEndWrite size (regionBeginWrite size content m)) = true := by
  have check := u16_of_bytes (n := checkValue content) (by unfold checkValue; omega)
  have someByte : (regionContent (size + 2) (regionEndWrite size (regionBeginWrite size content m))).all
      (· == 0xFF) = false := by
    rw [List.all_eq_false]
    refine ⟨content.getD k storeFill, ?_, by simpa using notErased⟩
    simp only [regionContent, Mem.bytes, List.mem_map, List.mem_range, Nat.zero_add]
    exact ⟨k, by omega, by rw [read_regionWritten wf length, if_pos inside]⟩
  rw [regionValid, regionContent_written wf length, someByte, read_regionWritten wf length,
    read_regionWritten wf length, read_regionWritten wf length]
  simp [le16, check]

/-- A region is not valid while it is being written (R185). -/
theorem regionValid_begun (wf : Mem.wf storeFill (size + 3) m = true) (length : content.length = size) :
    regionValid size (regionBeginWrite size content m) = false := by
  rw [regionValid, read_regionBeginWrite wf length]
  simp

end

/-! ### Chunks of a content -/

/-- A chunk of a list made of chunks of one length. -/
theorem sliceOf_flatMap {α : Type} {f : α → List Byte} {len : Nat} (length : ∀ x, (f x).length = len) :
    ∀ (xs : List α) (i : Nat) (inside : i < xs.length) (rest : List Byte),
      sliceOf (xs.flatMap f ++ rest) (i * len) len = f xs[i]
  | x :: xs, 0, _, rest => by
    simp [sliceOf, ← length x]
  | x :: xs, i + 1, inside, rest => by
    have behind := sliceOf_flatMap length xs i (by simpa using inside) rest
    rw [sliceOf] at behind ⊢
    rw [List.flatMap_cons, List.append_assoc, Nat.succ_mul, Nat.add_comm (i * len) len, ← length x,
      List.drop_length_add_append, length x]
    exact behind

theorem flatMap_length {α : Type} {f : α → List Byte} {len : Nat} (length : ∀ x, (f x).length = len) (xs : List α) :
    (xs.flatMap f).length = xs.length * len := by
  induction xs with
  | nil => simp
  | cons x xs ih => rw [List.flatMap_cons, List.length_append, length, ih, List.length_cons, Nat.succ_mul, Nat.add_comm]

/-! ### Tables -/

theorem slotBytes_length {α : Type} {len : Nat} {image : α → List Byte} {legal : α → Bool}
    (length : ∀ e, legal e = true → (image e).length = len) (x : Option α) (fits : ∀ e, x = some e → legal e = true) :
    (slotBytes len image x).length = len + 1 := by
  cases x with
  | none => simp [slotBytes]
  | some e => simp [slotBytes, length e (fits e rfl)]

/-- A slot reads as the entry it was written from. -/
theorem slotEntry_slotBytes {α : Type} {len : Nat} {image : α → List Byte} {legal : α → Bool}
    {ofImage free : List Byte → Option α} (decodes : ∀ e, legal e = true → ofImage (image e) = some e)
    (x : Option α) (fits : ∀ e, x = some e → legal e = true) :
    slotEntry ofImage legal free (slotBytes len image x) = x := by
  cases x with
  | none => rfl
  | some e => simp [slotBytes, slotEntry, decodes e (fits e rfl)]

theorem sliceOf_append_right (front back : List Byte) (a len : Nat) :
    sliceOf (front ++ back) (front.length + a) len = sliceOf back a len := by
  rw [sliceOf, sliceOf, List.drop_length_add_append]

section

variable {α : Type} {n len : Nat} {image : α → List Byte} {legal : α → Bool} {ofImage free : List Byte → Option α}
  {t : Table (Option α) n}

theorem tableBytes_length (length : ∀ e, legal e = true → (image e).length = len)
    (fits : ∀ i e, t.at i = some e → legal e = true) : (tableBytes len image t).length = n * (len + 1) := by
  rw [tableBytes, flatMap_length (len := len + 1) fun i => slotBytes_length length (t.at i) (fits i),
    List.length_finRange]

/-- A table reads from the part of a content that it was written to. -/
theorem tableOf_tableBytes (length : ∀ e, legal e = true → (image e).length = len)
    (decodes : ∀ e, legal e = true → ofImage (image e) = some e) (fits : ∀ i e, t.at i = some e → legal e = true)
    (front rest : List Byte) {base : Nat} (start : front.length = base) :
    tableOf n base (len + 1) ofImage legal free (front ++ (tableBytes len image t ++ rest)) = t := by
  refine Table.ext_at fun i => ?_
  have slot := sliceOf_flatMap (f := fun i => slotBytes len image (t.at i))
    (fun i => slotBytes_length length (t.at i) (fits i)) (List.finRange n) i.val (by simp) rest
  rw [List.getElem_finRange] at slot
  rw [tableOf, Table.at_build, ← start, sliceOf_append_right, tableBytes, slot]
  exact slotEntry_slotBytes decodes (t.at i) (fits i)

end

namespace TablesFit

variable {t : Tables} (fits : TablesFit t)
include fits

theorem watch_length : (tableBytes 17 WatchEntry.image t.watch).length = 576 :=
  tableBytes_length (fun e _ => watchEntry_image_length e) fits.watch

theorem signals_length : (tableBytes 17 SignalEntry.image t.signals).length = 1152 :=
  tableBytes_length (fun e _ => signalEntry_image_length e) fits.signals

theorem votes_length : (tableBytes 11 VoteRule.image t.votes).length = 48 :=
  tableBytes_length (fun e _ => voteRule_image_length e) fits.votes

theorem faults_length : (tableBytes 20 FaultDef.image t.faults).length = 1344 :=
  tableBytes_length (fun _ legal => faultDef_image_length legal) fits.faults

theorem content_length : t.content.length = tablesSize := by
  simp [Tables.content, fits.watch_length, fits.signals_length, fits.votes_length, fits.faults_length,
    settings_image_length, tablesSize]

omit fits in
/-- A content begins with the presence byte of watch entry 0. -/
theorem content_notErased : t.content.getD 0 storeFill ≠ 0xFF := by
  have presence (x : Option WatchEntry) (rest : List Byte) :
      (slotBytes 17 WatchEntry.image x ++ rest).getD 0 storeFill ≠ 0xFF := by
    cases x with
    | none =>
      rw [slotBytes, List.replicate_succ]
      change (0 : Byte) ≠ 0xFF
      decide
    | some e =>
      rw [slotBytes]
      change (1 : Byte) ≠ 0xFF
      decide
  rw [Tables.content, tableBytes, List.finRange_succ, List.flatMap_cons]
  simp only [List.append_assoc]
  exact presence _ _

theorem ofContent_content : Tables.ofContent t.content = t := by
  have settings : loadedSettings (sliceOf t.content 3120 24) = t.settings := by
    have front : (tableBytes 17 WatchEntry.image t.watch ++ tableBytes 17 SignalEntry.image t.signals ++
        tableBytes 11 VoteRule.image t.votes ++ tableBytes 20 FaultDef.image t.faults).length = 3120 := by
      simp [fits.watch_length, fits.signals_length, fits.votes_length, fits.faults_length]
    have last : sliceOf t.content 3120 24 = t.settings.image := by
      rw [Tables.content, ← Nat.add_zero 3120, ← front, sliceOf_append_right, sliceOf, List.drop_zero,
        List.take_of_length_le (by rw [settings_image_length])]
    rw [last, loadedSettings, settings_ofImage fits.settings]
    exact if_pos fits.settings
  have watch := tableOf_tableBytes (free := Config.unreadableWatch) (fun e _ => watchEntry_image_length e)
    (fun _ => watchEntry_ofImage) fits.watch []
    (tableBytes 17 SignalEntry.image t.signals ++ (tableBytes 11 VoteRule.image t.votes ++
      (tableBytes 20 FaultDef.image t.faults ++ t.settings.image))) (base := 0) rfl
  have signals := tableOf_tableBytes (free := Config.unreadableSignal) (fun e _ => signalEntry_image_length e)
    (fun _ => signalEntry_ofImage) fits.signals (tableBytes 17 WatchEntry.image t.watch)
    (tableBytes 11 VoteRule.image t.votes ++ (tableBytes 20 FaultDef.image t.faults ++ t.settings.image))
    (base := 576) fits.watch_length
  have votes := tableOf_tableBytes (free := Config.unreadableVote) (fun e _ => voteRule_image_length e)
    (fun _ => voteRule_ofImage) fits.votes
    (tableBytes 17 WatchEntry.image t.watch ++ tableBytes 17 SignalEntry.image t.signals)
    (tableBytes 20 FaultDef.image t.faults ++ t.settings.image) (base := 1728)
    (by simp [fits.watch_length, fits.signals_length])
  have faults := tableOf_tableBytes (free := Config.unreadableFault) (fun _ legal => faultDef_image_length legal)
    (fun _ => faultDef_ofImage) fits.faults
    (tableBytes 17 WatchEntry.image t.watch ++ tableBytes 17 SignalEntry.image t.signals ++
      tableBytes 11 VoteRule.image t.votes) t.settings.image (base := 1776)
    (by simp [fits.watch_length, fits.signals_length, fits.votes_length])
  rw [Tables.ofContent, settings]
  simp only [Tables.content, List.append_assoc, List.nil_append] at watch signals votes faults ⊢
  rw [watch, signals, votes, faults]

end TablesFit

/-! ### Records -/

theorem faultRecord_image_length {r : FaultRecord} (legal : r.legal = true) : r.image.length ≤ 29 := by
  simp only [FaultRecord.legal, Bool.and_eq_true, decide_eq_true_eq] at legal
  obtain ⟨⟨-, count⟩, -⟩ := legal
  have items : (r.signals.flatMap CaptureItem.image).length = r.signals.length * 3 :=
    flatMap_length (f := CaptureItem.image) (len := 3) (fun _ => rfl) _
  simp [FaultRecord.image, items]
  omega

theorem recordsOf_slots {rs : List FaultRecord} (legal : ∀ r ∈ rs, r.legal = true) (rest : List Byte) :
    recordsOf rs.length (rs.flatMap (fun r => padTo 29 r.image) ++ rest) = some rs := by
  induction rs with
  | nil => rfl
  | cons r rs ih =>
    rw [List.forall_mem_cons] at legal
    have slot := padTo_length (faultRecord_image_length legal.1)
    rw [List.flatMap_cons, List.append_assoc, List.length_cons, recordsOf,
      List.take_left' slot, List.drop_left' slot, padTo, faultRecord_ofImage legal.1, ih legal.2]
    rfl

/-- What `recordsLegal` says. -/
structure RecordsFit (n : Nat) (rs : List FaultRecord) : Prop where
  length : rs.length ≤ 20
  legal : ∀ r ∈ rs, r.legal = true
  lastRide : ∀ r ∈ rs, r.lastRide ≤ n
  nodup : (rs.map (·.fault)).Nodup

theorem recordsLegal_iff (n : Nat) (rs : List FaultRecord) : recordsLegal n rs = true ↔ RecordsFit n rs := by
  simp only [recordsLegal, Bool.and_eq_true, decide_eq_true_eq, List.all_eq_true]
  exact ⟨fun ⟨⟨⟨a, b⟩, c⟩, d⟩ => ⟨a, b, c, d⟩, fun ⟨a, b, c, d⟩ => ⟨⟨⟨a, b⟩, c⟩, d⟩⟩

theorem RecordsFit.slots_length {n : Nat} {rs : List FaultRecord} (fits : RecordsFit n rs) :
    (rs.flatMap fun r => padTo 29 r.image).length ≤ 580 := by
  have slots : (rs.flatMap fun r => padTo 29 r.image).length = rs.length * 29 := by
    have legal := fits.legal
    clear fits
    induction rs with
    | nil => rfl
    | cons r rs ih =>
      rw [List.forall_mem_cons] at legal
      rw [List.flatMap_cons, List.length_append, padTo_length (faultRecord_image_length legal.1), ih legal.2,
        List.length_cons]
      omega
  have := fits.length
  omega

theorem RecordsFit.content_length {n : Nat} {rs : List FaultRecord} (fits : RecordsFit n rs) :
    (memoryContent n rs).length = memorySize := by
  simp [memoryContent, padTo_length fits.slots_length, memorySize]

theorem memoryOfContent_memoryContent {n : Nat} {rs : List FaultRecord} (small : n ≤ 65535)
    (fits : RecordsFit n rs) : memoryOfContent (memoryContent n rs) = (n, rs) := by
  have count := fits.length
  have content : memoryContent n rs = byteOf n :: byteOf (n / 256) :: byteOf rs.length ::
      padTo 580 (rs.flatMap fun r => padTo 29 r.image) := rfl
  rw [content, memoryOfContent, u16_of_bytes small, toNat_byteOf (by omega), loadedRecords, padTo,
    recordsOf_slots fits.legal]
  simp [(recordsLegal_iff n rs).mpr fits]

/-- The record count of a content is no erased byte. -/
theorem RecordsFit.content_notErased {n : Nat} {rs : List FaultRecord} (fits : RecordsFit n rs) :
    (memoryContent n rs).getD 2 storeFill ≠ 0xFF := by
  have count := fits.length
  change byteOf rs.length ≠ 0xFF
  intro same
  have bytes := congrArg BitVec.toNat same
  rw [toNat_byteOf (by omega)] at bytes
  have : rs.length = 255 := bytes
  omega

/-- Settles O53: a write leaves its content readable and its state byte 1, and each slot of the content reads as the
entry it was written from. -/
theorem regionsLoadBack : Obligations.RegionsLoadBack := by
  refine ⟨fun t m legal wf => ?_, fun n rs m small legal wf => ?_⟩
  · have fits := (tablesLegal_iff t).mp legal
    have length := fits.content_length
    refine ⟨regionValid_written wf length (k := 0) (by decide) TablesFit.content_notErased, ?_,
      regionValid_begun wf length⟩
    rw [regionContent_written wf length]
    exact fits.ofContent_content
  · have fits := (recordsLegal_iff n rs).mp legal
    have length := fits.content_length
    refine ⟨regionValid_written wf length (k := 2) (by decide) fits.content_notErased, ?_,
      regionValid_begun wf length⟩
    rw [regionContent_written wf length]
    exact memoryOfContent_memoryContent small fits

end Sys2Proof.Proofs
end

section
/-!
PROOFS. Areas in canonical form, and every register and timer within its values (R3 to R5, R8, R20, R38, R57, R69, R77,
R78, R84, R85, R97, R114, R115, R138, R152, R156, R160, R162, R177, R181).
-/

namespace Sys2Proof.Proofs

open Sys2Proof.Machine

/-! ### Timers -/

theorem timerWithin_iff {hi : Nat} {t : Option Nat} : timerWithin hi t = true ↔ ∀ n, t = some n → n ≤ hi := by
  simp only [timerWithin, wherePresent_iff, decide_eq_true_eq]

theorem timerWithin_some {hi n : Nat} (le : n ≤ hi) : timerWithin hi (some n) = true := by
  simp [timerWithin, wherePresent, le]

theorem timerWithin_countDown {hi : Nat} {t : Option Nat} (within : timerWithin hi t = true) :
    timerWithin hi (countDown t) = true := by
  cases t with
  | none => rfl
  | some n =>
    have le := timerWithin_iff.mp within n rfl
    exact timerWithin_some (by omega)

theorem timerWithin_loadUnlessZero {hi n : Nat} (le : n ≤ hi) : timerWithin hi (loadUnlessZero n) = true := by
  unfold loadUnlessZero
  split
  · rfl
  · exact timerWithin_some le

/-! ### The invariant in propositions -/

/-- The values of the Ride Controller (R69, R77, R78, R84, R85). -/
structure RideInRange (r : RideController) : Prop where
  classes : classesInRange r.classes = true
  runTime : r.runTime ≤ 600000
  ignCount : r.ignCount ≤ 20
  rideNumber : r.rideNumber ≤ 65535

/-- The values of the Lamp Driver (R138). -/
structure LampsInRange (l : LampDriver) : Prop where
  engine : lampInRange l.engine = true
  abs : lampInRange l.abs = true
  proveTimer : timerWithin 5000 l.proveTimer = true

/-- The values of the Cluster Transmitter (R152, R156, R160, R162). -/
structure TxInRange (t : Transmitter) : Prop where
  offline : timerWithin 100 t.offline = true
  beaconTimer : timerWithin 5000 t.beaconTimer = true
  beaconPeriod : t.beaconPeriod ≤ 5000
  noticeLevel : t.noticeLevel ≤ 4
  errorCount : t.errorCount ≤ 256
  queue : t.queue.length ≤ 8

/-- The areas keep their canonical form (R167, section 12.6). -/
structure AreasFit (buffer : List Host.Cell) (st : PersistentStore) : Prop where
  buffer : Mem.wf bufferFill 32 buffer = true
  tables : Mem.wf storeFill (tablesSize + 3) st.tables = true
  memory : Mem.wf storeFill (memorySize + 3) st.memory = true

/-- What `areasCanonical` and `valuesInRange` say. -/
structure ValuesFit (s : State) : Prop where
  tables : TablesFit s.tables
  port : portInRange s.chassis = true
  silence : timerWithin 2000 s.chassis.silence = true
  ride : RideInRange s.ride
  lamps : LampsInRange s.lamps
  tx : TxInRange s.tx
  inbox : inboxInRange s.mgmt.inbox = true
  votes : ∀ k, timerWithin 1000 (s.voteTimers.at k) = true
  monitors : ∀ w, monitorInRange (s.monitors.at w) = true
  signals : ∀ i, signalInRange (s.signalRt.at i) = true
  faults : ∀ f, faultInRange (s.faultRt.at f) = true
  records : RecordsFit s.ride.rideNumber s.memory.records
  areas : AreasFit s.mgmt.buffer s.store

theorem valuesFit_iff (s : State) : (areasCanonical s = true ∧ valuesInRange s = true) ↔ ValuesFit s := by
  simp only [areasCanonical, valuesInRange, timersInRange, Bool.and_eq_true, decide_eq_true_eq, everyIndex_iff,
    tablesLegal_iff, recordsLegal_iff]
  constructor
  · rintro ⟨⟨⟨buffer, tablesArea⟩, memoryArea⟩, ⟨⟨⟨⟨⟨⟨⟨⟨⟨⟨⟨⟨⟨tables, port⟩, ⟨⟨⟨⟨⟨⟨⟨⟨silence, votes⟩, classes⟩, engine⟩, abs⟩,
      prove⟩, offline⟩, beaconTimer⟩, beaconPeriod⟩⟩, inbox⟩, runTime⟩, noticeLevel⟩, monitors⟩, signals⟩, faults⟩,
      ignCount⟩, rideNumber⟩, records⟩, errorCount⟩, queue⟩⟩
    exact ⟨tables, port, silence, ⟨classes, runTime, ignCount, rideNumber⟩, ⟨engine, abs, prove⟩,
      ⟨offline, beaconTimer, beaconPeriod, noticeLevel, errorCount, queue⟩, inbox, votes, monitors, signals, faults,
      records, ⟨buffer, tablesArea, memoryArea⟩⟩
  · rintro ⟨tables, port, silence, ⟨classes, runTime, ignCount, rideNumber⟩, ⟨engine, abs, prove⟩,
      ⟨offline, beaconTimer, beaconPeriod, noticeLevel, errorCount, queue⟩, inbox, votes, monitors, signals, faults,
      records, ⟨buffer, tablesArea, memoryArea⟩⟩
    exact ⟨⟨⟨buffer, tablesArea⟩, memoryArea⟩, ⟨⟨⟨⟨⟨⟨⟨⟨⟨⟨⟨⟨⟨tables, port⟩, ⟨⟨⟨⟨⟨⟨⟨⟨silence, votes⟩, classes⟩, engine⟩, abs⟩,
      prove⟩, offline⟩, beaconTimer⟩, beaconPeriod⟩⟩, inbox⟩, runTime⟩, noticeLevel⟩, monitors⟩, signals⟩, faults⟩,
      ignCount⟩, rideNumber⟩, records⟩, errorCount⟩, queue⟩⟩

/-! ### Lamps -/

theorem lampInRange_iff {l : LampState} : lampInRange l = true ↔
    timerWithin 5000 l.stretch = true ∧ ∀ ph, l.phase = some ph → ph.remaining ≤ 250 := by
  simp only [lampInRange, Bool.and_eq_true, wherePresent_iff, decide_eq_true_eq]

theorem lampInRange_refreshLamp {s : State} {l : LampState} (fits : lampInRange l = true) :
    lampInRange (refreshLamp s l) = true := by
  obtain ⟨stretch, phase⟩ := lampInRange_iff.mp fits
  unfold refreshLamp
  split
  · exact fits
  · unfold LampState.display
    split
    · exact fits
    · refine lampInRange_iff.mpr ⟨stretch, fun ph at_ => ?_⟩
      dsimp only at at_
      split at at_ <;> cases at_
      exact le_refl _

theorem lampInRange_changeRequest {n : Nat} (short : n ≤ 5000) (running : Bool) (p : Pattern) {l : LampState}
    (fits : lampInRange l = true) : lampInRange (l.changeRequest n running p) = true := by
  obtain ⟨stretch, phase⟩ := lampInRange_iff.mp fits
  rw [lampInRange_iff]
  unfold LampState.changeRequest
  split_ifs
  · exact ⟨rfl, phase⟩
  · exact ⟨timerWithin_loadUnlessZero short, phase⟩
  all_goals exact ⟨stretch, phase⟩

theorem lampInRange_updateLamp {s : State} (settings : SettingsFit s.tables.settings) (p : Pattern) {l : LampState}
    (fits : lampInRange l = true) : lampInRange (updateLamp s p l) = true := by
  unfold updateLamp
  split
  · exact fits
  · exact lampInRange_refreshLamp (lampInRange_changeRequest settings.lampStretch _ _ fits)

theorem LampsInRange.updateLamps {s : State} (settings : SettingsFit s.tables.settings)
    (fits : LampsInRange s.lamps) : LampsInRange (updateLamps s).lamps :=
  ⟨lampInRange_updateLamp settings _ fits.engine, lampInRange_updateLamp settings _ fits.abs, fits.proveTimer⟩

theorem LampsInRange.refreshLamps {s : State} (fits : LampsInRange s.lamps) : LampsInRange (refreshLamps s).lamps :=
  ⟨lampInRange_refreshLamp fits.engine, lampInRange_refreshLamp fits.abs, fits.proveTimer⟩

theorem LampsInRange.put {d : LampDriver} {lamp : Lamp} {l : LampState} (fits : LampsInRange d)
    (range : lampInRange l = true) : LampsInRange (d.put lamp l) := by
  cases lamp
  · exact ⟨range, fits.abs, fits.proveTimer⟩
  · exact ⟨fits.engine, range, fits.proveTimer⟩

theorem LampsInRange.get {d : LampDriver} (fits : LampsInRange d) (lamp : Lamp) : lampInRange (d.get lamp) = true := by
  cases lamp
  · exact fits.engine
  · exact fits.abs

/-! ### Classes -/

theorem classesInRange_iff {c : Classes} : classesInRange c = true ↔
    timerWithin 10000 c.ignition.timer = true ∧ ∀ cls, timerWithin 10000 (c.get cls).timer = true := by
  simp only [classesInRange, Bool.and_eq_true]
  constructor
  · rintro ⟨⟨⟨⟨ignition, crank⟩, supply⟩, abs⟩, port⟩
    refine ⟨ignition, fun cls => ?_⟩
    cases cls <;> assumption
  · rintro ⟨ignition, rest⟩
    exact ⟨⟨⟨⟨ignition, rest .crank⟩, rest .lowSupply⟩, rest .absActive⟩, rest .portDown⟩

theorem classesInRange_put {c : Classes} (cls : TailClass) {x : BlankingClass} (fits : classesInRange c = true)
    (timer : timerWithin 10000 x.timer = true) : classesInRange (c.put cls x) = true := by
  obtain ⟨ignition, rest⟩ := classesInRange_iff.mp fits
  have crank := rest .crank
  have supply := rest .lowSupply
  have abs := rest .absActive
  have port := rest .portDown
  rw [classesInRange_iff]
  cases cls
  all_goals
    refine ⟨ignition, fun d => ?_⟩
    cases d <;> assumption

/-! ### Monitors and vote timers -/

theorem monitorInRange_iff {m : Monitor} : monitorInRange m = true ↔
    m.remaining ≤ 131070 ∧ m.arrivals ≤ 255 ∧ ∀ n, m.previous = some n → n ≤ 65535 := by
  simp only [monitorInRange, Bool.and_eq_true, decide_eq_true_eq, wherePresent_iff, and_assoc]

theorem watchEntry_limits {e : WatchEntry} (legal : e.legal = true) : e.deadline ≤ 65535 ∧ e.startAllowance ≤ 65535 := by
  simp only [WatchEntry.legal, Bool.and_eq_true, decide_eq_true_eq] at legal
  obtain ⟨⟨⟨⟨⟨-, deadline⟩, -⟩, -⟩, -⟩, allowance⟩ := legal
  exact ⟨deadline, allowance⟩

theorem voteRule_period {r : VoteRule} (legal : r.legal = true) : r.period ≤ 1000 := by
  simp only [VoteRule.legal, Bool.and_eq_true, decide_eq_true_eq] at legal
  exact legal.2

/-- A timed entry is one of the table's. -/
theorem watch_of_timedEntry {t : Tables} {w : Fin 32} {e : WatchEntry} (timed : timedEntry t w = some e) :
    t.watch.at w = some e := by
  unfold timedEntry at timed
  split at timed
  · cases timed
  · split at timed <;> cases timed
    assumption

theorem monitorInRange_gate {e : WatchEntry} (legal : e.legal = true) (old new : RideState) {m : Monitor}
    (fits : monitorInRange m = true) : monitorInRange (gateMonitor old new e m) = true := by
  obtain ⟨deadline, allowance⟩ := watchEntry_limits legal
  unfold gateMonitor
  split_ifs
  · exact monitorInRange_iff.mpr ⟨by dsimp only; omega, by simp, by simp⟩
  · exact fits
  · exact fits

theorem timerWithin_gate {r : VoteRule} (legal : r.legal = true) (old new : RideState) {t : Option Nat}
    (fits : timerWithin 1000 t = true) : timerWithin 1000 (gateVoteTimer old new r t) = true := by
  unfold gateVoteTimer
  split_ifs
  · exact timerWithin_some (voteRule_period legal)
  · rfl
  · exact fits

theorem monitorInRange_arrival {e : WatchEntry} (legal : e.legal = true) {m : Monitor}
    (fits : monitorInRange m = true) : monitorInRange (m.afterArrival e) = true := by
  obtain ⟨deadline, -⟩ := watchEntry_limits legal
  obtain ⟨remaining, -, previous⟩ := monitorInRange_iff.mp fits
  rw [monitorInRange_iff]
  unfold Monitor.afterArrival
  split
  · exact ⟨by dsimp only; omega, by dsimp only; omega, previous⟩
  · exact ⟨by dsimp only; omega, by dsimp only; omega, by simp⟩
  · exact ⟨remaining, by dsimp only; omega, previous⟩

theorem monitorInRange_reload {e : WatchEntry} (legal : e.legal = true) {m : Monitor} (fits : monitorInRange m = true) :
    monitorInRange { m with remaining := e.deadline, arrivals := 0 } = true := by
  obtain ⟨deadline, -⟩ := watchEntry_limits legal
  obtain ⟨-, -, previous⟩ := monitorInRange_iff.mp fits
  exact monitorInRange_iff.mpr ⟨by dsimp only; omega, by simp, previous⟩

/-- A monitor or vote timer replaced, the others within their values. -/
theorem at_put_all {α : Type} {n : Nat} {p : α → Bool} {t : Table α n} {i : Fin n} {x : α}
    (old : ∀ j, p (t.at j) = true) (new : p x = true) (j : Fin n) : p ((t.put i x).at j) = true := by
  rw [Table.at_put]
  split
  · exact new
  · exact old j

/-! ### Counted samples -/

theorem faultInRange_iff {x : FaultRuntime} : faultInRange x = true ↔ -128 ≤ x.counter ∧ x.counter ≤ 127 := by
  simp only [faultInRange, Bool.and_eq_true, decide_eq_true_eq]

/-- A counted sample leaves the counter within -128..127 (R100, R101). -/
theorem faultInRange_nextRuntime {d : FaultDef} (legal : d.legal = true) (x : Finding) {rt : FaultRuntime}
    (fits : faultInRange rt = true) : faultInRange (nextRuntime d x rt) = true := by
  rw [faultInRange_iff] at fits ⊢
  simp only [FaultDef.legal, Bool.and_eq_true, decide_eq_true_eq] at legal
  have counter : (nextRuntime d x rt).counter = stepCounter d x rt.counter := rfl
  rw [counter]
  cases x with
  | fail =>
    simp only [stepCounter, failStep]
    split <;> omega
  | pass =>
    simp only [stepCounter, passStep]
    split <;> omega

theorem signalValue_isEngineering {s : State} (signals : ∀ i, signalInRange (s.signalRt.at i) = true) (i : Fin 64) :
    isEngineering (signalValue s i) = true := by
  unfold signalValue
  split
  · rfl
  · have range := signals i
    simp only [signalInRange, Bool.and_eq_true, wherePresent_iff] at range
    cases value : (s.signalRt.at i).value with
    | none => rfl
    | some v => exact range.1.1 v value

theorem newRecord_legal {s : State} {f : Fin 64} {d : FaultDef} (legal : d.legal = true)
    (running : s.ride.state.isRunning = true) (rideNumber : s.ride.rideNumber ≤ 65535)
    (signals : ∀ i, signalInRange (s.signalRt.at i) = true) : (newRecord s f d).legal = true := by
  have capture : d.capture.length ≤ 6 := by
    simp only [FaultDef.legal, Bool.and_eq_true, decide_eq_true_eq] at legal
    exact legal.2
  have clock : rideClock s ≤ 65535 := Nat.min_le_right _ _
  have captured : (captureSignals s d.capture).all CaptureItem.legal = true := by
    simp only [captureSignals, List.all_map, List.all_eq_true]
    exact fun i _ => signalValue_isEngineering signals i
  simp [FaultRecord.legal, newRecord, running, rideNumber, clock, captured]
  simpa [captureSignals] using capture

theorem failAgain_legal {n : Nat} (small : n ≤ 65535) {r : FaultRecord} (legal : r.legal = true)
    (last : r.lastRide ≤ n) : (r.failAgain n).legal = true := by
  rw [failAgain_eq]
  simp only [FaultRecord.legal, Bool.and_eq_true, decide_eq_true_eq] at legal ⊢
  obtain ⟨⟨⟨⟨⟨⟨⟨⟨one, occurrences⟩, first⟩, -⟩, -⟩, state⟩, clock⟩, count⟩, items⟩ := legal
  exact ⟨⟨⟨⟨⟨⟨⟨⟨by omega, by omega⟩, by omega⟩, small⟩, by omega⟩, state⟩, clock⟩, count⟩, items⟩

namespace RecordsFit

theorem sublist {n : Nat} {rs new : List FaultRecord} (fits : RecordsFit n rs) (sub : new.Sublist rs) :
    RecordsFit n new :=
  ⟨sub.length_le.trans fits.length, fun r mem => fits.legal r (sub.mem mem), fun r mem => fits.lastRide r (sub.mem mem),
    fits.nodup.sublist (sub.map _)⟩

theorem snoc {n : Nat} {rs : List FaultRecord} {r : FaultRecord} (fits : RecordsFit n rs) (room : rs.length < 20)
    (legal : r.legal = true) (last : r.lastRide ≤ n) (absent : ∀ x ∈ rs, x.fault ≠ r.fault) :
    RecordsFit n (rs ++ [r]) := by
  refine ⟨by simpa using room, fun x mem => ?_, fun x mem => ?_, ?_⟩
  · rcases List.mem_append.mp mem with old | new
    · exact fits.legal x old
    · rw [List.mem_singleton.mp new]; exact legal
  · rcases List.mem_append.mp mem with old | new
    · exact fits.lastRide x old
    · rw [List.mem_singleton.mp new]; exact last
  · rw [List.map_append, List.nodup_append]
    refine ⟨fits.nodup, by simp, fun a inOld b inNew same => ?_⟩
    obtain ⟨x, mem, rfl⟩ := List.mem_map.mp inOld
    obtain ⟨y, new, rfl⟩ := List.mem_map.mp inNew
    rw [List.mem_singleton.mp new] at same
    exact absent x mem same

/-- Records changed in place, each to a legal one of the same fault. -/
theorem map {n m : Nat} {rs : List FaultRecord} {g : FaultRecord → FaultRecord} (fits : RecordsFit n rs)
    (legal : ∀ r ∈ rs, (g r).legal = true) (last : ∀ r ∈ rs, (g r).lastRide ≤ m)
    (fault : ∀ r, (g r).fault = r.fault) : RecordsFit m (rs.map g) := by
  refine ⟨by simpa using fits.length, fun x mem => ?_, fun x mem => ?_, ?_⟩
  · obtain ⟨r, old, rfl⟩ := List.mem_map.mp mem
    exact legal r old
  · obtain ⟨r, old, rfl⟩ := List.mem_map.mp mem
    exact last r old
  · rw [List.map_map, show (fun r : FaultRecord => r.fault) ∘ g = fun r => r.fault from funext fault]
    exact fits.nodup

theorem mono {n m : Nat} {rs : List FaultRecord} (fits : RecordsFit n rs) (le : n ≤ m) : RecordsFit m rs :=
  ⟨fits.length, fits.legal, fun r mem => (fits.lastRide r mem).trans le, fits.nodup⟩

theorem nil (n : Nat) : RecordsFit n [] := ⟨by simp, by simp, by simp, by simp⟩

end RecordsFit

/-- The records after an entry into FAILING are records that the memory can hold. -/
theorem Recorded.fits {s : State} {f : Fin 64} {d : FaultDef} {m : FaultMemory} (recorded : Recorded s f d m)
    (legal : d.legal = true) (running : s.ride.state.isRunning = true) (rideNumber : s.ride.rideNumber ≤ 65535)
    (signals : ∀ i, signalInRange (s.signalRt.at i) = true) (fits : RecordsFit s.ride.rideNumber s.memory.records) :
    RecordsFit s.ride.rideNumber m.records := by
  have new := newRecord_legal (f := f) legal running rideNumber signals
  cases recorded with
  | again held =>
    refine fits.map (fun r mem => ?_) (fun r mem => ?_) fun r => ?_
    · split
      · exact failAgain_legal rideNumber (fits.legal r mem) (fits.lastRide r mem)
      · exact fits.legal r mem
    · split
      · exact le_refl _
      · exact fits.lastRide r mem
    · split <;> rfl
  | created absent room =>
    exact fits.snoc room new (le_refl _) (recordOf_eq_none_iff.mp absent)
  | full absent none => exact fits
  | @displaced v absent victim =>
    have fewer : (withoutFault v.fault s.memory.records).length < s.memory.records.length := by
      rw [withoutFault, List.length_filter_lt_length_iff_exists]
      exact ⟨v, (bestVictim_mem victim).1, by simp⟩
    refine (fits.sublist List.filter_sublist).snoc (fewer.trans_le fits.length) new (le_refl _) fun r mem => ?_
    exact recordOf_eq_none_iff.mp absent r (List.mem_of_mem_filter mem)

namespace ValuesFit

theorem countSample {s : State} {f : Fin 64} {d : FaultDef} (running : s.ride.state.isRunning = true)
    (defined : s.tables.faults.at f = some d) (x : Finding) (fits : ValuesFit s) :
    ValuesFit (Machine.countSample f d x s) := by
  have frame := countSample_frame f d x s
  have legal := fits.tables.faults f d defined
  have faultRt := countSample_faultRt f d x s
  have told {u : State} (tables : u.tables = s.tables) (lamps : u.lamps = s.lamps) :
      LampsInRange (updateLamps u).lamps :=
    .updateLamps (by rw [tables]; exact fits.tables.settingsFit) (by rw [lamps]; exact fits.lamps)
  have moved : LampsInRange (Machine.countSample f d x s).lamps ∧
      RecordsFit s.ride.rideNumber (Machine.countSample f d x s).memory.records := by
    have effect := countSample_counted f d x s
    generalize Machine.countSample f d x s = t at effect
    cases effect with
    | entry _ _ =>
      have handed := memoryEnterFailing_frame f d (setFaultRt f (nextRuntime d x (s.faultRt.at f)) s)
      refine ⟨told handed.tables (memoryEnterFailing_lamps f d _), ?_⟩
      exact (memoryEnterFailing_recorded (setFaultRt f _ s) f d).fits legal running fits.ride.rideNumber fits.signals
        fits.records
    | heals _ _ => exact ⟨told rfl rfl, fits.records⟩
    | moves _ => exact ⟨fits.lamps, fits.records⟩
  constructor
  · rw [frame.tables]; exact fits.tables
  · rw [frame.chassis]; exact fits.port
  · rw [frame.chassis]; exact fits.silence
  · rw [frame.ride]; exact fits.ride
  · exact moved.1
  · constructor
    · rw [frame.offline]; exact fits.tx.offline
    · rw [frame.beaconTimer]; exact fits.tx.beaconTimer
    · rw [frame.beaconPeriod]; exact fits.tx.beaconPeriod
    · rw [frame.noticeLevel]; exact fits.tx.noticeLevel
    · rw [frame.errorCount]; exact fits.tx.errorCount
    · rw [frame.queue]; exact fits.tx.queue
  · rw [frame.mgmt]; exact fits.inbox
  · rw [frame.voteTimers]; exact fits.votes
  · rw [frame.monitors]; exact fits.monitors
  · rw [frame.signalRt]; exact fits.signals
  · rw [faultRt]
    exact at_put_all fits.faults (faultInRange_nextRuntime legal x (fits.faults f))
  · rw [frame.ride]; exact moved.2
  · rw [frame.mgmt, frame.store]; exact fits.areas

theorem takeSample (src : Source) (x : Finding) {s : State} (fits : ValuesFit s) :
    ValuesFit (Machine.takeSample src x s) := by
  rcases takeSample_cases src x s with same | ⟨f, d, running, defined, counted⟩
  · rw [same]; exact fits
  · rw [counted]; exact fits.countSample running defined x

theorem setTx {s : State} {t : Transmitter} (fits : ValuesFit s) (tx : TxInRange t) : ValuesFit (s.setTx t) :=
  { fits with tx := tx }

end ValuesFit

/-! ### The transmitter -/

namespace TxInRange

/-- The values stay where an operation replaces the attempt alone, or the slots and flags that have no range. -/
theorem ofAttemptOnly {t u v : Transmitter} (fits : TxInRange t) (same : AttemptOnly t u)
    (rest : v = { u with notices := v.notices, slots := v.slots }) : TxInRange v := by
  rw [rest]
  constructor <;> dsimp only
  · rw [same.offline]; exact fits.offline
  · rw [same.beaconTimer]; exact fits.beaconTimer
  · rw [same.beaconPeriod]; exact fits.beaconPeriod
  · rw [same.noticeLevel]; exact fits.noticeLevel
  · rw [same.errorCount]; exact fits.errorCount
  · rw [same.queue]; exact fits.queue

theorem emptyForwarding {t : Transmitter} (fits : TxInRange t) : TxInRange t.emptyForwarding := by
  rw [Transmitter.emptyForwarding_eq]
  exact ⟨fits.offline, fits.beaconTimer, fits.beaconPeriod, fits.noticeLevel, fits.errorCount, by simp⟩

theorem giveUp {t : Transmitter} (fits : TxInRange t) : TxInRange t.giveUp := by
  rw [Transmitter.giveUp_eq]
  exact ⟨rfl, rfl, fits.beaconPeriod, fits.noticeLevel, by simp, by simp⟩

theorem atRideStart {t : Transmitter} {e : Settings} (settings : SettingsFit e) (fits : TxInRange t) :
    TxInRange (t.atRideStart e) := by
  have emptied := fits.emptyForwarding
  exact ⟨emptied.offline, timerWithin_loadUnlessZero settings.beaconPeriod, settings.beaconPeriod,
    settings.noticeLevel, emptied.errorCount, emptied.queue⟩

theorem atClosing {t : Transmitter} (fits : TxInRange t) : TxInRange t.atClosing := by
  have emptied := fits.emptyForwarding
  exact ⟨emptied.offline, rfl, emptied.beaconPeriod, emptied.noticeLevel, emptied.errorCount, emptied.queue⟩

theorem initial : TxInRange .initial := ⟨rfl, rfl, by decide, by decide, by decide, by decide⟩

end TxInRange

namespace ValuesFit

theorem setNotice (f : Fin 64) {s : State} (fits : ValuesFit s) : ValuesFit (Machine.setNotice f s) :=
  fits.setTx (fits.tx.ofAttemptOnly (s.tx.markResend_attemptOnly (.notice f)) rfl)

theorem selector {s : State} (fits : ValuesFit s) : ValuesFit (runSelector s) := by
  obtain ⟨u, same, selected⟩ := runSelector_eq s
  rw [selected]
  exact fits.setTx (fits.tx.ofAttemptOnly same rfl)

theorem setClass (cls : TailClass) {x : BlankingClass} {s : State} (timer : timerWithin 10000 x.timer = true)
    (fits : ValuesFit s) : ValuesFit (Machine.setClass cls x s) :=
  { fits with ride := { fits.ride with classes := classesInRange_put cls fits.ride.classes timer } }

theorem beginClass (cls : TailClass) {s : State} (fits : ValuesFit s) : ValuesFit (Machine.beginClass cls s) := by
  unfold Machine.beginClass
  split
  · exact fits.setClass cls rfl
  · exact fits

theorem endClass (cls : TailClass) {s : State} (fits : ValuesFit s) : ValuesFit (Machine.endClass cls s) := by
  unfold Machine.endClass
  split
  · refine fits.setClass cls ?_
    split
    · rfl
    · exact timerWithin_some (fits.tables.settingsFit.tail cls)
  · exact fits

theorem moveGates (old new : RideState) {s : State} (fits : ValuesFit s) : ValuesFit (Machine.moveGates old new s) :=
  { fits with
    monitors := fun w => by
      simp only [Machine.moveGates, State.setVoteTimers_monitors, State.setMonitors_monitors, Table.at_build]
      split
      · exact fits.monitors w
      next e timed => exact monitorInRange_gate (fits.tables.watch w e (watch_of_timedEntry timed)) _ _ (fits.monitors w)
    votes := fun k => by
      simp only [Machine.moveGates, State.setVoteTimers_voteTimers, Table.at_build]
      split
      · exact fits.votes k
      next r rule => exact timerWithin_gate (fits.tables.votes k r rule) _ _ (fits.votes k) }

theorem enterRideState (new : RideState) {s : State} (fits : ValuesFit s) :
    ValuesFit (Machine.enterRideState new s) :=
  { fits.moveGates s.ride.state new with ride := ⟨fits.ride.classes, fits.ride.runTime, fits.ride.ignCount,
      fits.ride.rideNumber⟩ }

theorem enqueueFrame (fr : Frame) {s : State} (fits : ValuesFit s) : ValuesFit (Machine.enqueueFrame fr s) := by
  unfold Machine.enqueueFrame
  split
  · exact fits.setTx { fits.tx with queue := by simp only [List.length_append, List.length_singleton]; omega }
  · have same := s.tx.detach_attemptOnly (· == .queueHead)
    have detached : TxInRange (s.tx.detach (· == .queueHead)) := fits.tx.ofAttemptOnly same rfl
    have queue := fits.tx.queue
    refine fits.setTx { detached with queue := ?_ }
    simp only [List.length_append, List.length_singleton, List.length_tail]
    omega

theorem clearHistories (w : Fin 32) {s : State} (fits : ValuesFit s) : ValuesFit (Machine.clearHistories w s) :=
  { fits with
    signals := fun i => by
      have range := fits.signals i
      simp only [Machine.clearHistories, State.setSignalRt_signalRt, Table.at_build]
      split
      · exact range
      · split
        · simp only [signalInRange, Bool.and_eq_true] at range ⊢
          exact ⟨⟨range.1.1, rfl⟩, rfl⟩
        · exact range }

theorem refreshLamps {s : State} (fits : ValuesFit s) : ValuesFit (Machine.refreshLamps s) :=
  { fits with lamps := fits.lamps.refreshLamps }

theorem stable : Stable ValuesFit where
  sample src x _ := takeSample src x
  notice f _ := setNotice f
  selector := selector
  begins cls _ := beginClass cls
  ends cls _ := endClass cls
  freeUses _ _ h := { h with }
  chassis c port silence h :=
    { h with
      port := port h.port
      silence := by
        rcases silence with same | none | loaded
        · rw [State.setChassis_chassis, same]; exact h.silence
        · rw [State.setChassis_chassis, none]; rfl
        · rw [State.setChassis_chassis, loaded]; exact timerWithin_some h.tables.settingsFit.silenceTime }
  arrival timed h :=
    { h with
      monitors := at_put_all h.monitors
        (monitorInRange_arrival (h.tables.watch _ _ (watch_of_timedEntry timed)) (h.monitors _)) }
  reload timed h :=
    { h with
      monitors := at_put_all h.monitors
        (monitorInRange_reload (h.tables.watch _ _ (watch_of_timedEntry timed)) (h.monitors _)) }
  watchRt _ _ h := { h with }
  substitute w e s h := by
    unfold offerSubstitute
    split
    · split
      · exact h
      · exact h.setTx (h.tx.ofAttemptOnly (s.tx.detach_attemptOnly _) rfl)
    · exact h
  offer w fr s _ h := h.setTx (h.tx.ofAttemptOnly (s.tx.detach_attemptOnly _) rfl)
  enqueue fr _ _ h := enqueueFrame fr h
  signal i x _ range h := { h with signals := at_put_all h.signals range }
  histories w _ := clearHistories w
  engine new _ _ _ := enterRideState new
  speed h := { h with ride := ⟨h.ride.classes, h.ride.runTime, h.ride.ignCount, h.ride.rideNumber⟩ }
  absReady h :=
    refreshLamps (s := State.setLamps _ _) { h with lamps := ⟨h.lamps.engine, h.lamps.abs, h.lamps.proveTimer⟩ }
  vote rule _ h := { h with votes := at_put_all h.votes (timerWithin_some (voteRule_period (h.tables.votes _ _ rule))) }

end ValuesFit

end Sys2Proof.Proofs
end

section
/-!
PROOFS. The values through rides, loads, requests and ticks (sections 5, 8 to 11).
-/

namespace Sys2Proof.Proofs

open Sys2Proof.Machine

/-! ### Records at a closure -/

theorem afterGoodRide_fits {d : FaultDef} {r x : FaultRecord} (after : r.afterGoodRide d = some x)
    (legal : r.legal = true) : x.legal = true ∧ x.lastRide = r.lastRide ∧ x.fault = r.fault := by
  have raised (status : RecordStatus) (legal : r.legal = true) :
      FaultRecord.legal { r with goodRides := min (r.goodRides + 1) 255, status := status } = true := by
    simp only [FaultRecord.legal, Bool.and_eq_true, decide_eq_true_eq] at legal ⊢
    obtain ⟨⟨⟨⟨⟨⟨⟨⟨one, occurrences⟩, first⟩, last⟩, -⟩, state⟩, clock⟩, count⟩, items⟩ := legal
    exact ⟨⟨⟨⟨⟨⟨⟨⟨one, occurrences⟩, first⟩, last⟩, by omega⟩, state⟩, clock⟩, count⟩, items⟩
  unfold FaultRecord.afterGoodRide at after
  dsimp only at after
  split at after
  · cases after
  · cases after
    exact ⟨raised _ legal, rfl, rfl⟩
  · split at after <;> cases after
    exact ⟨raised _ legal, rfl, rfl⟩

theorem closeRecord_fits {s : State} {r x : FaultRecord} (closed : closeRecord s r = some x) (legal : r.legal = true) :
    x.legal = true ∧ x.lastRide = r.lastRide ∧ x.fault = r.fault := by
  unfold closeRecord at closed
  split at closed
  · cases closed; exact ⟨legal, rfl, rfl⟩
  · split at closed
    · exact afterGoodRide_fits closed legal
    · cases closed; exact ⟨legal, rfl, rfl⟩

/-- Records changed or removed, each to a legal one of the same fault and last ride. -/
theorem RecordsFit.filterMap {n : Nat} {rs : List FaultRecord} {g : FaultRecord → Option FaultRecord}
    (fits : RecordsFit n rs)
    (keeps : ∀ {r x}, g r = some x → r.legal = true → x.legal = true ∧ x.lastRide = r.lastRide ∧ x.fault = r.fault) :
    RecordsFit n (rs.filterMap g) := by
  have faults : ((rs.filterMap g).map (·.fault)).Sublist (rs.map (·.fault)) := by
    have legal := fits.legal
    clear fits
    induction rs with
    | nil => exact List.Sublist.slnil
    | cons r rs ih =>
      rw [List.forall_mem_cons] at legal
      cases kept : g r with
      | none =>
        rw [List.filterMap_cons_none kept, List.map_cons]
        exact (ih legal.2).cons _
      | some x =>
        rw [List.filterMap_cons_some kept, List.map_cons, List.map_cons, (keeps kept legal.1).2.2]
        exact (ih legal.2).cons_cons _
  refine ⟨(List.length_filterMap_le _ _).trans fits.length, fun x mem => ?_, fun x mem => ?_,
    fits.nodup.sublist faults⟩
  · obtain ⟨r, old, kept⟩ := List.mem_filterMap.mp mem
    exact (keeps kept (fits.legal r old)).1
  · obtain ⟨r, old, kept⟩ := List.mem_filterMap.mp mem
    rw [(keeps kept (fits.legal r old)).2.1]
    exact fits.lastRide r old

namespace ValuesFit

theorem updateLamps {s : State} (fits : ValuesFit s) : ValuesFit (Machine.updateLamps s) :=
  { fits with lamps := fits.lamps.updateLamps fits.tables.settingsFit }

theorem changeRecords {rs : List FaultRecord} {s : State} (fits : ValuesFit s)
    (records : RecordsFit s.ride.rideNumber rs) : ValuesFit (Machine.changeRecords rs s) :=
  { fits with records := records }

theorem removeRecords (p : FaultRecord → Bool) {s : State} (fits : ValuesFit s) :
    ValuesFit (Machine.removeRecords p s) := by
  unfold Machine.removeRecords
  dsimp only
  split
  · exact fits
  · exact (stable.notices _ (fits.changeRecords (fits.records.sublist List.filter_sublist))).updateLamps

theorem closeRecords {s : State} (fits : ValuesFit s) : ValuesFit (Machine.closeRecords s) := by
  unfold Machine.closeRecords
  dsimp only
  split
  · exact fits
  · exact (stable.notices _ (fits.changeRecords (fits.records.filterMap closeRecord_fits))).updateLamps

theorem qualifiedClosure {s : State} (fits : ValuesFit s) : ValuesFit (Machine.qualifiedClosure s) := by
  have rideNumber := fits.ride.rideNumber
  refine closeRecords (s := (s.setRide { s.ride with rideNumber := min (s.ride.rideNumber + 1) 65535 }).setMemory
    { s.memory with dirty := true }) { fits with
      ride := ⟨fits.ride.classes, fits.ride.runTime, fits.ride.ignCount, Nat.min_le_right _ _⟩
      records := fits.records.mono ?_ }
  change s.ride.rideNumber ≤ min (s.ride.rideNumber + 1) 65535
  omega

/-! ### Rides begun and closed -/

theorem classesAtRideStart_inRange {s : State} (fits : ValuesFit s) : classesInRange (classesAtRideStart s) = true := by
  rw [classesInRange_iff]
  refine ⟨?_, fun cls => by cases cls <;> rfl⟩
  unfold classesAtRideStart
  dsimp only
  split
  · rfl
  · exact timerWithin_some fits.tables.settingsFit.ignitionBlanking

theorem lampInRange_atRideStart {e : Settings} (settings : SettingsFit e) (p : Pattern) :
    lampInRange (.atRideStart e.lampStretch p) = true := by
  rw [lampInRange_iff]
  unfold LampState.atRideStart
  refine ⟨?_, by simp⟩
  dsimp only
  split
  · rfl
  · exact timerWithin_loadUnlessZero settings.lampStretch

theorem rideStart {s : State} (fits : ValuesFit s) : ValuesFit (Machine.rideStart s) := by
  have settings := fits.tables.settingsFit
  have values : ValuesFit (rideStartGates (rideStartValues s)) := by
    rw [rideStartGates_eq]
    exact { fits with
      silence := timerWithin_some settings.silenceTime
      monitors := fun w => by
        rw [Table.at_build]
        split
        · rfl
        next e timed => exact monitorInRange_gate (fits.tables.watch w e (watch_of_timedEntry timed)) _ _ rfl
      signals := fun i => by rw [Table.at_fill]; rfl
      votes := fun k => by
        rw [Table.at_build]
        split
        · rfl
        next r rule => exact timerWithin_gate (fits.tables.votes k r rule) _ _ rfl
      faults := fun f => by rw [Table.at_fill]; rfl
      ride := ⟨fits.classesAtRideStart_inRange, by simp, fits.ride.ignCount, fits.ride.rideNumber⟩
      tx := fits.tx.atRideStart settings }
  have settings' := values.tables.settingsFit
  unfold Machine.rideStart
  refine stable.samples _ (stable.notices _ { values with lamps := ?_ })
  exact ⟨lampInRange_atRideStart settings' _, lampInRange_atRideStart settings' _,
    timerWithin_some settings'.proveOutTime⟩

theorem enterSettling {s : State} (fits : ValuesFit s) : ValuesFit (Machine.enterSettling s) := by
  rw [enterSettling_eq]
  exact { fits with
    port := rfl
    silence := rfl
    monitors := fun w => by rw [Table.at_fill]; rfl
    signals := fun i => by rw [Table.at_fill]; rfl
    votes := fun k => by rw [Table.at_fill]; rfl
    faults := fun f => by rw [Table.at_fill]; rfl
    lamps := ⟨rfl, rfl, rfl⟩
    tx := fits.tx.giveUp
    inbox := rfl
    ride := ⟨rfl, fits.ride.runTime, fits.ride.ignCount, fits.ride.rideNumber⟩
    areas := ⟨rfl, fits.areas.tables, fits.areas.memory⟩ }

theorem enterAsleep {s : State} (fits : ValuesFit s) : ValuesFit (Machine.enterAsleep s) := by
  rw [enterAsleep_eq]
  exact { fits with
    tx := fits.tx.giveUp
    inbox := rfl
    records := .nil _
    ride := ⟨fits.ride.classes, fits.ride.runTime, fits.ride.ignCount, fits.ride.rideNumber⟩ }

theorem finishClosing {s : State} (fits : ValuesFit s) : ValuesFit (Machine.finishClosing s) := by
  unfold Machine.finishClosing
  split
  · exact fits.enterAsleep
  · exact fits.enterSettling

theorem closingValues {s : State} (fits : ValuesFit s) : ValuesFit (Machine.closingValues s) := by
  have moved := fits.moveGates s.ride.state .closing
  rw [closingValues_eq]
  exact { fits with
    silence := rfl
    monitors := moved.monitors
    votes := moved.votes
    tx := fits.tx.atClosing
    ride := ⟨rfl, fits.ride.runTime, fits.ride.ignCount, fits.ride.rideNumber⟩
    lamps := ⟨rfl, rfl, rfl⟩ }

theorem beginMemoryWrite {s : State} (fits : ValuesFit s) : ValuesFit (Machine.beginMemoryWrite s) := by
  rw [beginMemoryWrite_eq]
  exact { fits with
    areas := ⟨fits.areas.buffer, fits.areas.tables,
      regionBeginWrite_wf fits.areas.memory fits.records.content_length⟩ }

theorem beginTablesWrite {s : State} (fits : ValuesFit s) : ValuesFit (Machine.beginTablesWrite s) := by
  rw [beginTablesWrite_eq]
  exact { fits with
    areas := ⟨fits.areas.buffer, regionBeginWrite_wf fits.areas.tables fits.tables.content_length,
      fits.areas.memory⟩ }

theorem enterClosing {s : State} (fits : ValuesFit s) : ValuesFit (Machine.enterClosing s) := by
  unfold Machine.enterClosing
  extract_lets qualified u v
  have closed : ValuesFit u := fits.closingValues
  have processed : ValuesFit v := by
    simp only [v]
    split
    · exact closed.qualifiedClosure
    · exact closed
  split
  · exact processed.beginMemoryWrite
  · exact processed.finishClosing

theorem startOrClose {s : State} (fits : ValuesFit s) : ValuesFit (Machine.startOrClose s) := by
  unfold Machine.startOrClose
  split
  · exact fits.rideStart
  · exact fits.enterClosing

theorem ignChanged (level : Level) {s : State} (fits : ValuesFit s) : ValuesFit (Machine.ignChanged level s) := by
  unfold Machine.ignChanged
  split
  · exact fits.enterSettling
  · exact fits.enterClosing
  · exact fits.enterClosing
  · exact fits.enterClosing
  · split
    · exact fits
    · exact fits.enterClosing
    · exact fits.enterClosing
  all_goals exact fits

theorem enterConfigure {s : State} (fits : ValuesFit s) : ValuesFit (Machine.enterConfigure s) := by
  have moved := fits.moveGates s.ride.state .configure
  rw [enterConfigure_eq]
  exact { fits with
    silence := rfl
    monitors := moved.monitors
    votes := moved.votes
    faults := fun f => by rw [Table.at_fill]; rfl
    tx := fits.tx.emptyForwarding
    ride := ⟨fits.ride.classes, Nat.zero_le _, fits.ride.ignCount, fits.ride.rideNumber⟩
    lamps := ⟨rfl, rfl, rfl⟩ }

/-! ### Loads -/

theorem installTables {t : Tables} (u : Bool) (tables : TablesFit t) {s : State} (fits : ValuesFit s) :
    ValuesFit (Machine.installTables t u s) := by
  rw [installTables_eq]
  exact { fits with
    tables := tables
    votes := fun i => by
      simp only [Machine.installTables, clearEmptyRuntime, State.setFaultRt_voteTimers, State.setVoteTimers_voteTimers, Table.at_build]
      split
      · rfl
      · exact fits.votes i
    monitors := fun i => by
      simp only [Machine.installTables, clearEmptyRuntime, State.setFaultRt_monitors, State.setVoteTimers_monitors,
        State.setSignalRt_monitors, State.setMonitors_monitors, Table.at_build]
      split
      · rfl
      · exact fits.monitors i
    signals := fun i => by
      simp only [Machine.installTables, clearEmptyRuntime, State.setFaultRt_signalRt, State.setVoteTimers_signalRt,
        State.setSignalRt_signalRt, Table.at_build]
      split
      · rfl
      · exact fits.signals i
    faults := fun i => by
      simp only [Machine.installTables, clearEmptyRuntime, State.setFaultRt_faultRt, Table.at_build]
      split
      · rfl
      · exact fits.faults i }

theorem loadTables {s : State} (fits : ValuesFit s) : ValuesFit (Machine.loadTables s) := by
  have tables := TablesFit.loadTables s
  unfold Machine.loadTables at tables ⊢
  split at tables
  · exact fits.installTables false tables
  · exact fits.installTables true .empty

theorem loadMemory {s : State} (fits : ValuesFit s) : ValuesFit (Machine.loadMemory s) := by
  obtain ⟨rideNumber, records⟩ := memoryOfContent_legal (regionContent memorySize s.store.memory)
  rw [loadMemory_eq]
  generalize memoryOfContent (regionContent memorySize s.store.memory) = loaded at rideNumber records
  split
  · exact { fits with
      records := (recordsLegal_iff _ _).mp records
      ride := ⟨fits.ride.classes, fits.ride.runTime, fits.ride.ignCount, rideNumber⟩
      areas := ⟨fits.areas.buffer, fits.areas.tables, fits.areas.memory⟩ }
  · exact { fits with
      records := .nil 0
      ride := ⟨fits.ride.classes, fits.ride.runTime, fits.ride.ignCount, Nat.zero_le _⟩
      areas := ⟨fits.areas.buffer, fits.areas.tables, fits.areas.memory⟩ }

theorem respond (c : Byte) (r : Result) (d : List Byte) {s : State} (fits : ValuesFit s) :
    ValuesFit (Machine.respond c r d s) :=
  { fits with tx := { fits.tx with }, inbox := rfl }

theorem endOfWork {s : State} (fits : ValuesFit s) : ValuesFit (Machine.endOfWork s) :=
  selector (startOrClose (fits.respond _ _ _))

/-! ### Requests -/

theorem setBuffer {b : List Host.Cell} {s : State} (fits : ValuesFit s) (wf : Mem.wf bufferFill 32 b = true) :
    ValuesFit (s.setMgmt { s.mgmt with buffer := b }) :=
  { fits with areas := ⟨wf, fits.areas.tables, fits.areas.memory⟩ }

theorem fillBuffer {image : List Byte} {s : State} (fits : ValuesFit s) (length : image.length ≤ 32) :
    ValuesFit (Machine.fillBuffer image s) :=
  fits.setBuffer (Mem.ofBytes_wf bufferFill 32 image length)

theorem replaceSignal (i : Fin 64) {x : Option SignalEntry} {s : State} (fits : ValuesFit s)
    (legal : ∀ e, x = some e → e.legal = true) : ValuesFit (Machine.replaceSignal i x s) :=
  stable.replaceSignal i x { fits with
    tables := fits.tables.putSignal i legal
    signals := at_put_all fits.signals rfl }

theorem replaceVote (k : Fin 4) {x : Option VoteRule} {s : State} (fits : ValuesFit s)
    (legal : ∀ e, x = some e → e.legal = true) : ValuesFit (Machine.replaceVote k x s) :=
  { fits with tables := fits.tables.putVote k legal, votes := at_put_all fits.votes rfl }

theorem replaceFault (f : Fin 64) {x : Option FaultDef} {s : State} (fits : ValuesFit s)
    (legal : ∀ e, x = some e → e.legal = true) : ValuesFit (Machine.replaceFault f x s) :=
  { fits with tables := fits.tables.putFault f legal, faults := at_put_all fits.faults rfl }

theorem replaceSettings {e : Settings} {s : State} (fits : ValuesFit s) (clamped : e.clamped = e) :
    ValuesFit (Machine.replaceSettings e s) :=
  { fits with tables := fits.tables.putSettings clamped }

theorem eraseEntryAt (entry : EntryRef) {s : State} (fits : ValuesFit s) :
    ValuesFit (Machine.eraseEntryAt entry s) := by
  cases entry with
  | watch i =>
    exact { fits with tables := fits.tables.putWatch i (by simp), monitors := at_put_all fits.monitors rfl }
  | signal i => exact fits.replaceSignal i (by simp)
  | vote k => exact fits.replaceVote k (by simp)
  | fault f => exact fits.replaceFault f (by simp)
  | settings => exact fits.replaceSettings clamped_default

theorem storeEntry (entry : EntryRef) {s t : State} {data : List Byte} (fits : ValuesFit s)
    (stored : storeEntryOutcome entry s = .inr (t, data)) : ValuesFit t := by
  cases entry with
  | watch i =>
    obtain ⟨e, decoded, -, rfl, -⟩ := GatesAndOperations.storeOutcome_stored stored
    have legal := watchEntry_legal_of_image decoded
    exact { fits with
      tables := fits.tables.putWatch i (by simpa using legal)
      monitors := at_put_all fits.monitors rfl }
  | signal i =>
    obtain ⟨e, decoded, -, rfl, -⟩ := GatesAndOperations.storeOutcome_stored stored
    have legal := signalEntry_legal_of_image decoded
    exact fits.replaceSignal i (by simpa using legal)
  | vote k =>
    obtain ⟨e, decoded, -, rfl, -⟩ := GatesAndOperations.storeOutcome_stored stored
    have legal := voteRule_legal_of_image decoded
    exact fits.replaceVote k (by simpa using legal)
  | fault f =>
    obtain ⟨e, decoded, -, rfl, -⟩ := GatesAndOperations.storeOutcome_stored stored
    have legal := faultDef_legal_of_image decoded
    exact fits.replaceFault f (by simpa using legal)
  | settings =>
    simp only [storeEntryOutcome] at stored
    split at stored <;> cases stored
    exact fits.replaceSettings (clamped_clamped _)

/-- Every image that FETCH ENTRY writes fits the transfer buffer. -/
theorem entryImage_length {t : Tables} (tables : TablesFit t) {entry : EntryRef} {image : List Byte}
    (written : entryImage t entry = some image) : image.length ≤ 32 := by
  cases entry with
  | watch i =>
    obtain ⟨e, -, rfl⟩ := Option.map_eq_some_iff.mp written
    simp [watchEntry_image_length]
  | signal i =>
    obtain ⟨e, -, rfl⟩ := Option.map_eq_some_iff.mp written
    simp [signalEntry_image_length]
  | vote k =>
    obtain ⟨e, -, rfl⟩ := Option.map_eq_some_iff.mp written
    simp [voteRule_image_length]
  | fault f =>
    obtain ⟨e, held, rfl⟩ := Option.map_eq_some_iff.mp written
    simp [faultDef_image_length (tables.faults f e held)]
  | settings =>
    cases written
    simp [settings_image_length]

theorem doCommit {s : State} (fits : ValuesFit s) : ValuesFit (Machine.doCommit s) := by
  unfold Machine.doCommit
  split
  · exact fits.respond _ _ _
  · extract_lets removed
    have few : removed ≤ 20 := (List.length_filter_le _ _).trans fits.records.length
    refine beginTablesWrite (removeRecords _ { fits with inbox := ?_ })
    exact decide_eq_true few

theorem carryOut (r : Request) {s : State} (fits : ValuesFit s) (permitted : Request.fits s.ride.state r) :
    ValuesFit (Machine.carryOut r s) := by
  cases r with
  | status | readFault _ | readBuffer _ => exact fits.respond _ _ _
  | writeBuffer offset data =>
    exact (fits.setBuffer (Mem.writeBytes_wf data fits.areas.buffer permitted.2)).respond _ _ _
  | setNoticeMask level enables =>
    exact (fits.setTx (t := { s.tx with noticeLevel := level, enables := enables })
      { fits.tx with noticeLevel := permitted.2 }).respond _ _ _
  | readSignal i =>
    simp only [Machine.carryOut, doReadSignal]
    split <;> exact fits.respond _ _ _
  | peekMonitor w =>
    simp only [Machine.carryOut, doPeekMonitor]
    split <;> exact fits.respond _ _ _
  | fetchRecord k =>
    simp only [Machine.carryOut, doFetchRecord]
    split
    · exact fits.respond _ _ _
    next r held =>
      have legal := fits.records.legal r (List.mem_of_getElem? held)
      exact (fits.fillBuffer ((faultRecord_image_length legal).trans (by decide))).respond _ _ _
  | clearRecords mask => exact (fits.removeRecords _).respond _ _ _
  | enterConfigure =>
    simp only [Machine.carryOut, doEnterConfigure]
    split
    · exact fits.enterConfigure.respond _ _ _
    · exact fits.respond _ _ _
  | leaveConfigure commit =>
    simp only [Machine.carryOut, doLeaveConfigure]
    split
    · exact fits.doCommit
    · exact { fits with inbox := rfl, areas := ⟨fits.areas.buffer, fits.areas.tables, fits.areas.memory⟩ }
  | storeEntry e =>
    simp only [Machine.carryOut, doStoreEntry]
    split
    · exact fits.respond _ _ _
    next stored => exact (fits.storeEntry e stored).respond _ _ _
  | fetchEntry e =>
    simp only [Machine.carryOut, doFetchEntry]
    split
    · exact fits.respond _ _ _
    next written => exact (fits.fillBuffer (entryImage_length fits.tables written)).respond _ _ _
  | eraseEntry e => exact (fits.eraseEntryAt e).respond _ _ _

/-! ### Attempts and expiries -/

theorem endAttempt {count : Nat} {s : State} (fits : ValuesFit s) (small : count ≤ 256) :
    ValuesFit (Machine.endAttempt count s) :=
  fits.setTx { fits.tx with errorCount := small }

theorem completeItem (a : Attempt) {s : State} (fits : ValuesFit s) : ValuesFit (Machine.completeItem a s) := by
  unfold Machine.completeItem
  split
  · exact { fits with tx := { fits.tx with }, inbox := rfl }
  · split
    · exact fits
    · exact fits.setTx { fits.tx with }
  · exact fits.setTx { fits.tx with }
  · have queue := fits.tx.queue
    exact fits.setTx { fits.tx with queue := by simp only [List.length_tail]; omega }
  · split
    · exact fits
    · exact fits.setTx { fits.tx with }
  · exact fits

theorem attemptFails {s : State} (fits : ValuesFit s) : ValuesFit (Machine.attemptFails s) := by
  unfold Machine.attemptFails
  extract_lets u
  have ended : ValuesFit u := fits.endAttempt (Nat.min_le_right _ _)
  split
  · exact takeSample _ _ (ended.setTx (t := { u.tx with offline := some 100 }) { ended.tx with offline := rfl })
  · exact ended.selector

theorem portReturns {s : State} (fits : ValuesFit s) : ValuesFit (Machine.portReturns s) :=
  selector (takeSample _ _ (fits.setTx (t := { s.tx with offline := none, errorCount := 0 })
    { fits.tx with offline := rfl, errorCount := by simp }))

theorem beaconExpires {s : State} (fits : ValuesFit s) : ValuesFit (Machine.beaconExpires s) := by
  have marked : TxInRange (s.tx.markResend .beacon) := fits.tx.ofAttemptOnly (s.tx.markResend_attemptOnly .beacon) rfl
  exact selector (fits.setTx { marked with beaconTimer := timerWithin_some fits.tx.beaconPeriod })

theorem expireTail (cls : TailClass) {s : State} (fits : ValuesFit s) : ValuesFit (Machine.expireTail cls s) :=
  fits.setClass cls rfl

theorem expireIgnition {s : State} (fits : ValuesFit s) : ValuesFit (Machine.expireIgnition s) := by
  obtain ⟨-, tails⟩ := classesInRange_iff.mp fits.ride.classes
  exact { fits with ride := { fits.ride with classes := classesInRange_iff.mpr ⟨rfl, fun cls => by
    have tail := tails cls
    cases cls <;> exact tail⟩ } }

theorem expireProveOut {s : State} (fits : ValuesFit s) : ValuesFit (Machine.expireProveOut s) :=
  refreshLamps (s := State.setLamps _ _) { fits with lamps := ⟨fits.lamps.engine, fits.lamps.abs, rfl⟩ }

theorem expireStretch (lamp : Lamp) {s : State} (fits : ValuesFit s) : ValuesFit (Machine.expireStretch lamp s) := by
  obtain ⟨-, phase⟩ := lampInRange_iff.mp (fits.lamps.get lamp)
  exact { fits with lamps := fits.lamps.put (lampInRange_refreshLamp (lampInRange_iff.mpr ⟨rfl, phase⟩)) }

theorem expireFlash (lamp : Lamp) {s : State} (fits : ValuesFit s) : ValuesFit (Machine.expireFlash lamp s) := by
  obtain ⟨stretch, -⟩ := lampInRange_iff.mp (fits.lamps.get lamp)
  refine { fits with lamps := fits.lamps.put (lampInRange_iff.mpr ⟨stretch, fun ph next => ?_⟩) }
  obtain ⟨before, -, rfl⟩ := Option.map_eq_some_iff.mp next
  exact le_refl _

theorem classFollowsBand {old new : Band} {s : State} (fits : ValuesFit s) :
    ValuesFit (Machine.classFollowsBand old new s) := by
  unfold Machine.classFollowsBand
  split
  · exact fits.beginClass _
  · split
    · exact fits.endClass _
    · exact fits

theorem bandChanged (new : Band) {s : State} (fits : ValuesFit s) : ValuesFit (Machine.bandChanged new s) := by
  have followed : ValuesFit (Machine.classFollowsBand s.ride.band new (s.setRide { s.ride with band := new })) :=
    classFollowsBand (s := s.setRide _) { fits with
      ride := ⟨fits.ride.classes, fits.ride.runTime, fits.ride.ignCount, fits.ride.rideNumber⟩ }
  unfold Machine.bandChanged
  dsimp only
  split
  · exact followed.refreshLamps
  · exact followed

/-! ### Ticks -/

theorem lampInRange_tick {l : LampState} (fits : lampInRange l = true) : lampInRange l.tick = true := by
  obtain ⟨stretch, phase⟩ := lampInRange_iff.mp fits
  refine lampInRange_iff.mpr ⟨timerWithin_countDown stretch, fun ph next => ?_⟩
  obtain ⟨before, held, rfl⟩ := Option.map_eq_some_iff.mp next
  have := phase before held
  dsimp only
  omega

theorem monitorInRange_tick (mode : MonitorMode) {m : Monitor} (fits : monitorInRange m = true) :
    monitorInRange (m.tick mode) = true := by
  obtain ⟨remaining, arrivals, previous⟩ := monitorInRange_iff.mp fits
  unfold Monitor.tick
  split
  · refine monitorInRange_iff.mpr ⟨by dsimp only; omega, arrivals, fun n elapsed => ?_⟩
    dsimp only at elapsed
    split at elapsed
    · obtain ⟨before, -, rfl⟩ := Option.map_eq_some_iff.mp elapsed
      exact Nat.min_le_right _ _
    · exact previous n elapsed
  · exact fits

theorem classesInRange_tick {c : Classes} (fits : classesInRange c = true) : classesInRange c.tick = true := by
  obtain ⟨ignition, tails⟩ := classesInRange_iff.mp fits
  refine classesInRange_iff.mpr ⟨timerWithin_countDown ignition, fun cls => ?_⟩
  have tail := timerWithin_countDown (tails cls)
  cases cls <;> exact tail

theorem tickRunTime_le {s : State} (fits : ValuesFit s) : tickRunTime s ≤ 600000 := by
  have limit := fits.tables.settingsFit.qualifyRun
  have runTime := fits.ride.runTime
  unfold tickRunTime
  split <;> omega

theorem tickHeldTimers {s : State} (fits : ValuesFit s) : ValuesFit (Machine.tickHeldTimers s) := by
  unfold Machine.tickHeldTimers
  split
  · exact fits
  · exact { fits with
      silence := timerWithin_countDown fits.silence
      monitors := fun w => by
        simp only [State.setRide_monitors, State.setLamps_monitors, State.setVoteTimers_monitors,
          State.setMonitors_monitors, tickMonitors, Table.at_build]
        split
        · exact fits.monitors w
        · exact monitorInRange_tick _ (fits.monitors w)
      votes := fun k => by
        simp only [State.setRide_voteTimers, State.setLamps_voteTimers, State.setVoteTimers_voteTimers, Table.at_build]
        exact timerWithin_countDown (fits.votes k)
      lamps := ⟨lampInRange_tick fits.lamps.engine, lampInRange_tick fits.lamps.abs,
        timerWithin_countDown fits.lamps.proveTimer⟩
      ride := ⟨classesInRange_tick fits.ride.classes, fits.tickRunTime_le, fits.ride.ignCount, fits.ride.rideNumber⟩ }

theorem tickTimers {s : State} (fits : ValuesFit s) : ValuesFit (Machine.tickTimers s) := by
  have held := fits.tickHeldTimers
  unfold Machine.tickTimers
  generalize Machine.tickHeldTimers s = u at held
  have ignCount : tickIgnCount u.pins u.ride ≤ 20 := by
    unfold tickIgnCount
    split
    · exact Nat.zero_le _
    · exact Nat.min_le_right _ _
  exact { held with
    tx := { held.tx with
      offline := timerWithin_countDown held.tx.offline, beaconTimer := timerWithin_countDown held.tx.beaconTimer }
    areas := ⟨held.areas.buffer, held.areas.tables, held.areas.memory⟩
    ride := ⟨held.ride.classes, held.ride.runTime, ignCount, held.ride.rideNumber⟩ }

/-- A part in reset, or just out of it, has every value at its start. -/
theorem reset {s : State} {st : PersistentStore} (tables : Mem.wf storeFill (tablesSize + 3) st.tables = true)
    (memory : Mem.wf storeFill (memorySize + 3) st.memory = true)
    (values : s = { State.reset with
      pending := s.pending, inReset := s.inReset, pins := s.pins, strap := s.strap, store := st,
      freeUses := s.freeUses }) : ValuesFit s := by
  rw [values]
  exact {
    tables := .empty
    port := rfl
    silence := rfl
    ride := ⟨rfl, Nat.zero_le _, Nat.zero_le _, Nat.zero_le _⟩
    lamps := ⟨rfl, rfl, rfl⟩
    tx := .initial
    inbox := rfl
    votes := fun k => by simp only [State.reset, Table.at_fill]; rfl
    monitors := fun w => by simp only [State.reset, Table.at_fill]; rfl
    signals := fun i => by simp only [State.reset, Table.at_fill]; rfl
    faults := fun f => by simp only [State.reset, Table.at_fill]; rfl
    records := .nil 0
    areas := ⟨rfl, tables, memory⟩ }

end ValuesFit

/-- Settles O54: every operation that loads a timer or a counter loads it from a legal setting or entry, and every
count saturates. -/
theorem stepKeepsValues : Obligations.StepKeepsValues := by
  intro s t areas values stepped
  obtain ⟨rest, effect⟩ := step_effect stepped
  have fits := (valuesFit_iff s).mp ⟨areas, values⟩
  rw [valuesFit_iff]
  replace fits : ValuesFit (s.setPending rest) := { fits with }
  clear areas values stepped
  generalize s.setPending rest = s at fits effect
  have stable := ValuesFit.stable
  cases effect with
  | idle => exact fits
  | tick waiting _ => exact { fits.tickTimers with }
  | powerOnReset | leaveReset _ _ => 
    exact .reset (st := { s.store with op := none, storeLost := false }) fits.areas.tables fits.areas.memory rfl
  | frame id _ short => exact stable.takeFrame id short fits
  | busError _ => exact stable.takeBusError fits
  | silence _ => exact stable.silenceExpires fits
  | monitor timed _ => exact (stable.monitorExpires timed fits).selector
  | period timed _ => exact (stable.periodExpires timed fits).selector
  | vote rule due => exact (stable.voteExpires rule due fits).selector
  | pins _ => exact { fits with }
  | ignChange level pins =>
    exact (ValuesFit.ignChanged level
      (s := (s.setPins pins).setRide { s.ride with ign := level, ignCount := 0 })
      { fits with ride := ⟨fits.ride.classes, fits.ride.runTime, Nat.zero_le _, fits.ride.rideNumber⟩ }).selector
  | bandChange new pins => exact ValuesFit.bandChanged new (s := s.setPins pins) { fits with }
  | load _ =>
    exact (ValuesFit.loadMemory (.loadTables (s := endOp s) { fits with
      areas := ⟨fits.areas.buffer, fits.areas.tables, fits.areas.memory⟩ })).startOrClose.selector
  | memoryWrite _ =>
    rw [memoryWriteCompletes, finishMemoryWrite_eq]
    exact ValuesFit.finishClosing { fits with
      areas := ⟨fits.areas.buffer, fits.areas.tables, regionEndWrite_wf fits.areas.memory⟩ }
  | tablesWrite _ =>
    rw [finishTablesWrite_eq]
    exact ValuesFit.endOfWork { fits with
      areas := ⟨fits.areas.buffer, regionEndWrite_wf fits.areas.tables, fits.areas.memory⟩ }
  | reload _ =>
    exact ValuesFit.endOfWork (.loadTables (s := endOp s) { fits with
      areas := ⟨fits.areas.buffer, fits.areas.tables, fits.areas.memory⟩ })
  | tail _ => exact fits.expireTail _
  | ignition _ => exact fits.expireIgnition
  | proveOut _ => exact fits.expireProveOut
  | stretch _ => exact fits.expireStretch _
  | flash _ => exact fits.expireFlash _
  | success _ =>
    have small := fits.tx.errorCount
    exact ((fits.endAttempt (by omega)).completeItem _).selector
  | failure _ => exact fits.attemptFails
  | outbid _ => exact (fits.endAttempt fits.tx.errorCount).selector
  | offlineEnd _ => exact fits.portReturns
  | beacon _ => exact fits.beaconExpires
  | answer c r u _ => exact (ValuesFit.respond c r [] (s := s.setFreeUses u) { fits with }).selector
  | request _ permitted => exact (fits.carryOut _ permitted).selector

end Sys2Proof.Proofs
end

section
/-!
PROOFS. Requests decoded (R168 to R170, R192), and the answers of the readings, the buffer and the mask (R34, R52, R110,
R135, R171, R172).
-/

namespace Sys2Proof.Proofs

open Sys2Proof.Machine

/-! ### Requests taken -/

section

variable {c : Byte} {args : List Byte} {s : State} {name : RequestName}

theorem fitsFrame_of_args (short : args.length ≤ 7) : fitsFrame (c :: args) = true := by
  simpa [fitsFrame] using Nat.lt_succ_of_le short

/-- A request taken is decoded by its code and its bytes. -/
theorem requestArrives_decodes (awake : s.inReset = false) (taken : takesRequest s = true) (short : args.length ≤ 7) :
    requestArrives (c :: args) s = .next (runSelector (decodeCode c args s)) :=
  requestArrives_taken (fitsFrame_of_args short) awake taken

/-- No request is permitted in CLOSING (R170). -/
theorem not_closing_of_permitted (permitted : name.permitted s.ride.state = true) : s.ride.state ≠ .closing := by
  intro closing
  rw [closing] at permitted
  cases name <;> cases permitted

/-- A permitted request whose arguments lie outside their ranges, or are not carried, is BAD_ARGUMENT (R169 step 4). -/
theorem decodeCode_badArgument (named : RequestName.ofCode c = some name)
    (permitted : name.permitted s.ride.state = true) (illegal : requestOf name args = none) :
    decodeCode c args s = respond c .badArgument [] s := by
  simp only [decodeCode, not_closing_of_permitted permitted, named, permitted, illegal, if_true, if_false]

/-- A request that the ride state does not permit is REFUSED (R169 steps 1 and 3). -/
theorem decodeCode_refused (named : RequestName.ofCode c = some name)
    (notPermitted : s.ride.state = .closing ∨ name.permitted s.ride.state = false) :
    decodeCode c args s = respond c .refused [] s := by
  unfold decodeCode
  split
  · rfl
  next notClosing => simp only [named, notPermitted.resolve_left notClosing, Bool.false_eq_true, if_false]

/-- The requests that the running states and CONFIGURE permit alike (R170). -/
def IsReading (name : RequestName) : Prop :=
  ∀ st : RideState, name.permitted st = (st.isRunning || st == .configure)

theorem permitted_of_isReading (reading : IsReading name)
    (answering : s.ride.state.isRunning = true ∨ s.ride.state = .configure) :
    name.permitted s.ride.state = true := by
  rw [reading]
  simpa using answering

/-- A reading whose arguments are legal is carried out. -/
theorem reading_carriesOut {r : Request} (isOpen : requestsOpen s = true) (short : args.length ≤ 7)
    (named : RequestName.ofCode c = some name) (reading : IsReading name) (legal : requestOf name args = some r) :
    requestArrives (c :: args) s = .next (runSelector (carryOut r s)) := by
  obtain ⟨awake, taken, answering⟩ := (requestsOpen_iff s).mp isOpen
  rw [requestArrives_decodes awake taken short,
    decodeCode_carriesOut named (permitted_of_isReading reading answering) legal]

/-- A reading whose arguments are not legal is BAD_ARGUMENT. -/
theorem reading_badArgument (isOpen : requestsOpen s = true) (short : args.length ≤ 7)
    (named : RequestName.ofCode c = some name) (reading : IsReading name) (illegal : requestOf name args = none) :
    requestArrives (c :: args) s = .next (runSelector (respond c .badArgument [] s)) := by
  obtain ⟨awake, taken, answering⟩ := (requestsOpen_iff s).mp isOpen
  rw [requestArrives_decodes awake taken short,
    decodeCode_badArgument named (permitted_of_isReading reading answering) illegal]

end

/-! ### UNKNOWN, REFUSED, BAD_ARGUMENT -/

/-- A code outside those of section 12.2 names no request. -/
theorem ofCode_eq_none_of_unnamed {c : Byte} {rest : List Byte} (unnamed : namesNoRequest (c :: rest) = true) :
    RequestName.ofCode c = none := by
  have decided : ∀ c : Byte, requestCodes.contains c = false → RequestName.ofCode c = none := by decide
  exact decided c (by simpa [namesNoRequest] using unnamed)

theorem takeRequest_unknown {p : List Byte} {s : State} (unnamed : namesNoRequest p = true) :
    ∃ echo n, decodeRequest p s = respond echo (if s.ride.state = .closing then .refused else .unknown) []
        (s.setFreeUses n) ∧
      ∀ c rest, p = c :: rest → echo = c ∧ n = s.freeUses := by
  cases p with
  | nil => exact ⟨_, _, rfl, nofun⟩
  | cons c rest =>
    refine ⟨c, s.freeUses, ?_, fun _ _ same => ⟨(List.cons.inj same).1, rfl⟩⟩
    simp only [decodeRequest, decodeCode, ofCode_eq_none_of_unnamed unnamed]
    split <;> rfl

/-- A command that carries a request frame is its frame's arrival (log 15). -/
theorem exec_of_frameBytes {i : Instr} {c : Byte} {args : List Byte} (s : State) (bytes : i.frameBytes = c :: args)
    (request : ∀ id p, i ≠ .errorFreeFrame id p) : exec i s = requestArrives (c :: args) s := by
  rw [← bytes]
  cases i
  case errorFreeFrame id p => exact absurd rfl (request id p)
  all_goals first | rfl | cases bytes

/-- A permitted request that carries too few argument bytes is not legal (R192). -/
theorem requestOf_short {name : RequestName} {args : List Byte} (few : args.length < match name with
    | .status => 0 | .enterConfigure => 0 | .writeBuffer => 2 | .setNoticeMask => 2
    | .storeEntry => 2 | .fetchEntry => 2 | .eraseEntry => 2 | .readFault => 1 | .readSignal => 1
    | .peekMonitor => 1 | .fetchRecord => 1 | .readBuffer => 1 | .clearRecords => 1
    | .leaveConfigure => 1) : requestOf name args = none := by
  match args with
  | [] => cases name <;> first | rfl | cases few
  | [a] => cases name <;> first | rfl | (simp at few)
  | _ :: _ :: _ => cases name <;> simp at few

/-- Settles O38: every request frame is decoded by its bytes; the steps of R169 decide it in their order. -/
theorem unknownRefusedAndShortAnswered : Obligations.UnknownRefusedAndShortAnswered := by
  refine ⟨fun s p awake taken short unnamed => ?_,
    fun s i c args name awake taken short named bytes request => ?_⟩
  · obtain ⟨echo, n, decoded, echoes⟩ := takeRequest_unknown (s := s) unnamed
    have fits : fitsFrame p = true := by simpa [fitsFrame] using short
    have answered : exec (.unknown p) s = .next (runSelector (decodeRequest p s)) :=
      requestArrives_taken fits awake taken
    exact ⟨echo, _, answered.trans (by rw [decoded]), rfl, echoes⟩
  · rw [exec_of_frameBytes s bytes request, requestArrives_decodes awake taken short]
    refine ⟨fun notPermitted => ?_, fun permitted few => ?_⟩
    · rw [decodeCode_refused named notPermitted]
      rfl
    · rw [decodeCode_badArgument named permitted (requestOf_short few)]
      rfl

/-! ### READ FAULT and READ SIGNAL -/

theorem byteOf_twos8 (v : Int) : byteOf (twos8 v) = BitVec.ofInt 8 v := by
  apply BitVec.eq_of_toNat_eq
  simp only [byteOf, twos8, BitVec.toNat_ofNat, BitVec.toNat_ofInt]
  omega

theorem le16_twos16 (v : Int) :
    le16 (twos16 v) = [(BitVec.ofInt 16 v).extractLsb' 0 8, (BitVec.ofInt 16 v).extractLsb' 8 8] := by
  have bytes : twos16 v = (BitVec.ofInt 16 v).toNat := by simp [twos16, BitVec.toNat_ofInt]
  rw [bytes]
  simp only [le16, List.cons.injEq, and_true]
  constructor <;> apply BitVec.eq_of_toNat_eq <;> simp [byteOf, Nat.shiftRight_eq_div_pow]

/-- The record status in a reading. -/
theorem byteOf_statusCode (x : Option FaultRecord) :
    byteOf (statusCode x) = match x with
      | none => 0
      | some r => byteOf r.status.code := by
  cases x <;> rfl

theorem indexOf_eq_none {n b : Nat} (beyond : n ≤ b) : indexOf n b = none := dif_neg (by omega)

theorem indexOf_val {n b : Nat} {i : Fin n} (same : b = i.val) : indexOf n b = some i := by
  subst same
  exact dif_pos i.isLt

theorem faultOfNumber_val {b : Nat} {f : Fin 64} (same : b = f.val + 1) : faultOfNumber b = some f := by
  rw [faultOfNumber, if_neg (by omega), indexOf_val (i := f) (by omega)]

theorem faultOfNumber_eq_none {b : Nat} (outside : b = 0 ∨ 64 < b) : faultOfNumber b = none := by
  rw [faultOfNumber]
  split
  · rfl
  · exact indexOf_eq_none (by omega)

/-- Settles O40: each reading's arguments are legal exactly in the range of its index. -/
theorem faultAndSignalReadings : Obligations.FaultAndSignalReadings := by
  refine ⟨fun s n rest isOpen short => ⟨fun outside => ?_, fun f number => ?_⟩,
    fun s n rest isOpen short => ⟨fun beyond => ?_, fun i index => ?_⟩⟩
  · refine reading_badArgument (name := .readFault) isOpen (Nat.succ_le_succ short) rfl (fun _ => rfl) ?_
    simp [requestOf, oneArgument, faultOfNumber_eq_none outside]
  · have legal : requestOf .readFault (n :: rest) = some (.readFault f) := by
      simp [requestOf, oneArgument, faultOfNumber_val number]
    have answered : exec (.readFault (n :: rest)) s = .next (runSelector (doReadFault f s)) :=
      reading_carriesOut (args := n :: rest) isOpen (Nat.succ_le_succ short) rfl (fun _ => rfl) legal
    intro status
    have recorded : byteOf (statusCode (recordOf s f)) = status := byteOf_statusCode _
    refine ⟨fun vacant => ?_, fun d held => ?_⟩
    · rw [answered, doReadFault, faultReading, vacant, ← recorded]
      rfl
    · rw [answered, doReadFault, faultReading, held, ← recorded, ← byteOf_twos8]
      rfl
  · refine reading_badArgument (name := .readSignal) isOpen (Nat.succ_le_succ short) rfl (fun _ => rfl) ?_
    simp [requestOf, oneArgument, indexOf_eq_none beyond]
  · have legal : requestOf .readSignal (n :: rest) = some (.readSignal i) := by
      simp [requestOf, oneArgument, indexOf_val index]
    have answered : exec (.readSignal (n :: rest)) s = .next (runSelector (doReadSignal i s)) :=
      reading_carriesOut (args := n :: rest) isOpen (Nat.succ_le_succ short) rfl (fun _ => rfl) legal
    refine ⟨fun vacant => ?_, fun e held => ?_⟩
    · rw [answered, doReadSignal, vacant]
      rfl
    · have valid : flagByte (signalValid s i) =
          if (s.signalRt.at i).value ≠ none ∧ (s.watchRt.at e.watch).freshness = .fresh then 1 else 0 := by
        simp [flagByte, signalValid, held, Option.isSome_iff_ne_none]
      rw [answered, doReadSignal, held]
      simp only [signalValue, held, signalFreshness, le16_twos16, valid]
      rfl

/-! ### PEEK MONITOR -/

theorem watch_freshness_code_lt (x : Freshness) : x.code < 3 := by cases x <;> decide

theorem mode_code_lt (m : MonitorMode) : m.code < 3 := by cases m <;> decide

/-- Settles O41: the four bytes of `monitorReading`, taken apart again. -/
theorem peekMonitorAnswers : Obligations.PeekMonitorAnswers := by
  intro s n rest isOpen short
  refine ⟨fun beyond => ?_, fun w index => ?_⟩
  · refine reading_badArgument (name := .peekMonitor) isOpen (Nat.succ_le_succ short) rfl (fun _ => rfl) ?_
    simp [requestOf, oneArgument, indexOf_eq_none beyond]
  · have legal : requestOf .peekMonitor (n :: rest) = some (.peekMonitor w) := by
      simp [requestOf, oneArgument, indexOf_val index]
    have answered : exec (.peekMonitor (n :: rest)) s = .next (runSelector (doPeekMonitor w s)) :=
      reading_carriesOut (args := n :: rest) isOpen (Nat.succ_le_succ short) rfl (fun _ => rfl) legal
    refine ⟨fun vacant => ?_, fun e held => ?_⟩
    · rw [answered, doPeekMonitor, vacant]
      rfl
    · rw [answered, doPeekMonitor, held]
      refine ⟨_, _, _, _, rfl, ?_⟩
      have mode := mode_code_lt e.mode
      have fresh := watch_freshness_code_lt (s.watchRt.at w).freshness
      by_cases absent : e.deadline = 0
      · simp [monitorStateCode, absent, byteOf]
        omega
      · have code : monitorStateCode e (s.monitors.at w) = if (s.monitors.at w).running then 2 else 1 :=
          if_neg absent
        have state : monitorStateCode e (s.monitors.at w) < 3 := by
          rw [code]
          split <;> omega
        rw [← code]
        simp only [absent, if_false, byteOf, BitVec.toNat_ofNat, Nat.reducePow]
        refine ⟨by omega, by omega, fun none => none.elim, fun _ small few => ⟨by omega, by omega, by omega⟩⟩

/-! ### FETCH RECORD and the transfer buffer -/

/-- A byte of an area that holds the given bytes from its start. -/
theorem read_ofBytes_start (d : Byte) (bs : List Byte) (a : Nat) : Mem.read d (Mem.ofBytes d 0 bs) a = bs.getD a d := by
  simpa using Mem.read_ofBytes d 0 bs a

/-- The length of a record image (section 12.5). -/
theorem record_image_length (r : FaultRecord) : r.image.length = 11 + 3 * r.signals.length := by
  have items := flatMap_length (f := CaptureItem.image) (len := 3) (fun _ => rfl) r.signals
  simp [FaultRecord.image, items]
  omega

theorem buffer_wf_of_areasCanonical {s : State} (canonical : areasCanonical s = true) :
    Mem.wf bufferFill 32 s.mgmt.buffer = true := by
  simp only [areasCanonical, Bool.and_eq_true] at canonical
  exact canonical.1.1

/-- The data of a WRITE BUFFER are its first five bytes at most (R171). -/
theorem writeBuffer_legal_iff (o : Byte) (data : List Byte) (r : Request) :
    requestOf .writeBuffer (o :: data) = some r ↔
      data ≠ [] ∧ o.toNat ≤ 31 ∧ o.toNat + min data.length 5 ≤ 32 ∧ r = .writeBuffer o.toNat (data.take 5) := by
  have length : (data.take 5).length = min data.length 5 := by rw [List.length_take, Nat.min_comm]
  have nonempty : (data.take 5).isEmpty = false ↔ data ≠ [] := by cases data <;> simp
  simp only [requestOf, writeBufferOf, length, nonempty, Option.ite_none_right_eq_some, Option.some.injEq, and_assoc]
  rw [eq_comm (a := r)]

theorem getD_take_of_lt {data : List Byte} {n k : Nat} (inside : k < n) (d : Byte) :
    (data.take n).getD k d = data.getD k d := by
  simp [List.getD_eq_getElem?_getD, inside]

/-- Settles O42: the image is the whole buffer after a FETCH RECORD; a WRITE BUFFER replaces the bytes it carries. -/
theorem recordAndBufferRequestsAnswer : Obligations.RecordAndBufferRequestsAnswer := by
  refine ⟨fun s k rest isOpen short => ?fetch, fun s o data isOpen short canonical => ?buffer⟩
  case fetch =>
    have answered : exec (.fetchRecord (k :: rest)) s = .next (runSelector (doFetchRecord k.toNat s)) :=
      reading_carriesOut (args := k :: rest) (name := .fetchRecord) (r := .fetchRecord k.toNat) isOpen
        (Nat.succ_le_succ short) rfl (fun _ => rfl) rfl
    refine ⟨fun beyond => ?_, fun r held => ?_⟩
    · rw [answered, doFetchRecord, List.getElem?_eq_none beyond]
      rfl
    · rw [answered, doFetchRecord, held]
      exact ⟨_, rfl, rfl, fun a _ => read_ofBytes_start bufferFill r.image a, record_image_length r⟩
  case buffer =>
    have wf := buffer_wf_of_areasCanonical canonical
    refine ⟨fun inside => ?_, fun beyond => ?_, fun outside => ?_, fun some fits => ?_⟩
    · refine reading_carriesOut (args := o :: data) (r := .readBuffer o.toNat) isOpen (Nat.succ_le_succ short) rfl
        (fun _ => rfl) ?_
      simp [requestOf, oneArgument, inside]
    · refine reading_badArgument (args := o :: data) (name := .readBuffer) isOpen (Nat.succ_le_succ short) rfl
        (fun _ => rfl) ?_
      simp [requestOf, oneArgument, Nat.not_le.mpr (Nat.lt_of_succ_le beyond)]
    · refine reading_badArgument (args := o :: data) (name := .writeBuffer) isOpen (Nat.succ_le_succ short) rfl
        (fun _ => rfl) (Option.eq_none_iff_forall_not_mem.mpr fun r legal => ?_)
      obtain ⟨nonempty, low, fits, -⟩ := (writeBuffer_legal_iff o data r).mp legal
      rcases outside with vacant | long | high
      · exact nonempty vacant
      · omega
      · omega
    · have length : (data.take 5).length = min data.length 5 := by rw [List.length_take, Nat.min_comm]
      have bytes : 0 < data.length := List.length_pos_iff.mpr some
      have legal := (writeBuffer_legal_iff o data _).mpr ⟨some, by omega, fits, rfl⟩
      have written : exec (.writeBuffer (o :: data)) s =
          .next (runSelector (doWriteBuffer o.toNat (data.take 5) s)) :=
        reading_carriesOut (args := o :: data) isOpen (Nat.succ_le_succ short) rfl (fun _ => rfl) legal
      refine ⟨_, written, rfl, fun a => ?_, Mem.writeBytes_wf (data.take 5) wf (by omega)⟩
      change Mem.read bufferFill (Mem.writeBytes bufferFill s.mgmt.buffer o.toNat (data.take 5)) a = _
      rw [read_writeBytes wf (by omega), length]
      split
      next within => exact getD_take_of_lt (by omega) _
      next => rfl

/-! ### SET NOTICE MASK -/

/-- Settles O44: a level within 0 to 4 is legal, and carrying it out replaces the mask. -/
theorem setNoticeMaskAnswers : Obligations.SetNoticeMaskAnswers := by
  intro s level groups rest isOpen short
  refine ⟨fun inRange => ?_, fun above => ?_⟩
  · refine reading_carriesOut (r := .setNoticeMask level.toNat (GroupMask.ofByte groups)) isOpen
      (Nat.succ_le_succ (Nat.succ_le_succ short)) rfl (fun _ => rfl) ?_
    simp [requestOf, twoArguments, inRange]
  · refine reading_badArgument (name := .setNoticeMask) isOpen (Nat.succ_le_succ (Nat.succ_le_succ short)) rfl (fun _ => rfl) ?_
    simp [requestOf, twoArguments, Nat.not_le.mpr above]

end Sys2Proof.Proofs
end

section
/-!
PROOFS. The requests that act: CLEAR RECORDS, ENTER and LEAVE CONFIGURE (R91, R130, R132, R173, R180 to R182).
-/

namespace Sys2Proof.Proofs

open Sys2Proof.Machine

/-! ### Records removed -/

/-- All that the removal of records does (R125, R130, R132). -/
structure RecordsRemoved (p : FaultRecord → Bool) (s t : State) : Prop where
  frame : t = { s with
    memory := t.memory, lamps := t.lamps
    tx := { s.tx with notices := t.tx.notices, attempt := t.tx.attempt } }
  records : t.memory.records = s.memory.records.filter fun r => !p r
  full : t.memory.full = s.memory.full
  flags : ∀ r ∈ s.memory.records, p r = true → t.tx.notices.at r.fault = true ∧ t.memory.dirty = true
  lamps : if ∃ r ∈ s.memory.records, p r = true then t.lamps = (updateLamps { t with lamps := s.lamps }).lamps
    else t.lamps = s.lamps

theorem removeRecords_removed (p : FaultRecord → Bool) (s : State) : RecordsRemoved p s (removeRecords p s) := by
  have lamps := removeRecords_lamps s p
  by_cases none : (s.memory.records.filter p).isEmpty = true
  · have kept : removeRecords p s = s := if_pos none
    have unnamed : ∀ r ∈ s.memory.records, ¬p r = true := by
      simpa only [List.isEmpty_iff, List.filter_eq_nil_iff] using none
    rw [kept] at lamps ⊢
    have whole : s.memory.records.filter (fun r => !p r) = s.memory.records :=
      List.filter_eq_self.mpr fun r mem => by simpa using unnamed r mem
    exact ⟨rfl, whole.symm, rfl, fun r mem named => absurd named (unnamed r mem), lamps⟩
  · have told : removeRecords p s = updateLamps (setNotices ((s.memory.records.filter p).map (·.fault))
        (changeRecords (s.memory.records.filter fun r => !p r) s)) := if_neg none
    have flags : ∀ r ∈ s.memory.records, p r = true → (removeRecords p s).tx.notices.at r.fault = true := by
      intro r mem named
      have listed : ((s.memory.records.filter p).map (·.fault)).contains r.fault = true := by
        rw [List.contains_iff_mem]
        exact List.mem_map_of_mem (List.mem_filter.mpr ⟨mem, named⟩)
      rw [told, updateLamps_tx, setNotices_at, listed, Bool.or_true]
    rw [setNotices_eq] at told
    generalize removeRecords p s = t at *
    subst told
    exact ⟨rfl, rfl, rfl, fun r mem named => ⟨flags r mem named, rfl⟩, lamps⟩

/-! ### CLEAR RECORDS -/

/-- The selection replaces the attempt alone, whatever it selects. -/
theorem runSelector_selected (s : State) :
    ∃ attempt, runSelector s = { s with tx := { s.tx with attempt := attempt } } :=
  ⟨_, runSelector_eq_with_attempt s⟩

theorem has_ofByte (m : Byte) (g : Group) : (GroupMask.ofByte m).has g = m.getLsbD g.code := by cases g <;> rfl

/-- Settles O43: the records removed are those that the mask names and whose fault is not FAILING. -/
theorem clearRecordsAnswers : Obligations.ClearRecordsAnswers := by
  intro s m rest isOpen short
  have answered : exec (.clearRecords (m :: rest)) s =
      .next (runSelector (doClearRecords (GroupMask.ofByte m) s)) :=
    reading_carriesOut (args := m :: rest) (name := .clearRecords) (r := .clearRecords (GroupMask.ofByte m)) isOpen
      (Nat.succ_le_succ short) rfl (fun _ => rfl) rfl
  obtain ⟨attempt, selected⟩ := runSelector_selected (doClearRecords (GroupMask.ofByte m) s)
  refine ⟨_, answered.trans (congrArg _ selected), ?_⟩
  intro named failing
  have names : maskNames (GroupMask.ofByte m) s = named := by
    funext r
    simp only [maskNames, named]
    cases s.tables.faults.at r.fault with
    | none => rfl
    | some d => exact has_ofByte m d.group
  have fails (r : FaultRecord) : (verdictOf s r.fault == .failing) = failing r := by
    simp only [verdictOf, failing]
    cases s.tables.faults.at r.fault <;> simp
  have cleared : clearsRecord (GroupMask.ofByte m) s = fun r => named r && !failing r := by
    funext r
    rw [clearsRecord, names, ← fails, bne]
  have kept : keepsRecord (GroupMask.ofByte m) s = fun r => named r && failing r := by
    funext r
    rw [keepsRecord, names, ← fails]
  rw [doClearRecords, cleared, kept]
  obtain ⟨frame, records, full, flags, lamps⟩ := removeRecords_removed (fun r => named r && !failing r) s
  generalize removeRecords (fun r => named r && !failing r) s = u at *
  refine ⟨?_, rfl, fun r mem isNamed passes => flags r mem (by simp [isNamed, passes]), full, ?_, ?_, ?_⟩
  · change u.memory.records = _
    simp only [records, Bool.not_and, Bool.not_not]
  · rw [frame]
    rfl
  · simp only [Bool.and_eq_true, Bool.not_eq_true'] at lamps
    split
    next some => exact (if_pos some ▸ lamps :)
    next none => exact (if_neg none ▸ lamps :)
  · rw [frame]
    rfl

/-! ### ENTER CONFIGURE -/

/-- A monitor at entry into CONFIGURE from KEY_ON: only a RUNNING gate was closed already (R21, R23). -/
theorem gateMonitor_configure (e : WatchEntry) (m : Monitor) (opened : e.gate ≠ .running) :
    (gateMonitor .keyOn .configure e m).running = false := by
  unfold gateMonitor
  cases gate : e.gate with
  | running => exact absurd gate opened
  | awake => rfl
  | notCranking => rfl

/-- What entry into CONFIGURE does to the blocks that the answer speaks of (R91). -/
theorem enterConfigure_lamps (s : State) (l : Lamp) :
    let lamp := (enterConfigure s).lamps.get l
    lamp.displayed = .steady ∧ lamp.proveOut = false ∧ lamp.stretch = none ∧ lamp.stretched = none := by
  cases l <;> exact ⟨rfl, rfl, rfl, rfl⟩

/-- Settles O45: at speed 0 the state is entered and the answer is OK, at another speed the answer is REFUSED. -/
theorem enterConfigureAnswers : Obligations.EnterConfigureAnswers := by
  intro s args awake taken keyOn short
  have decoded : decodeCode 0x40 args s = doEnterConfigure s :=
    decodeCode_carriesOut (name := .enterConfigure) (r := .enterConfigure) rfl (by rw [keyOn]; rfl) rfl
  have answered : exec (.enterConfigure args) s = .next (runSelector (doEnterConfigure s)) :=
    (requestArrives_decodes awake taken short).trans (by rw [decoded])
  refine ⟨fun standing => ?_, fun moving => ?_⟩
  · rw [doEnterConfigure, if_pos standing] at answered
    refine ⟨_, answered, ?_⟩
    have carries (a : Attempt) (attempt : s.tx.attempt = some a) :
        (runSelector (respond 0x40 .ok [] (enterConfigure s))).tx.attempt =
          some { a with item := emptiedItem a.item } := by
      refine runSelector_keeps_attempt ?_
      rw [enterConfigure_eq]
      change s.tx.emptyForwarding.attempt = _
      rw [Transmitter.emptyForwarding_eq, attempt]
      rfl
    have lamps := enterConfigure_lamps s
    have timer : (enterConfigure s).lamps.proveTimer = none := rfl
    have entered := enterConfigure_eq s
    rw [Transmitter.emptyForwarding_eq] at entered
    rw [runSelector_eq_with_attempt]
    generalize (runSelector (respond 0x40 .ok [] (enterConfigure s))).tx.attempt = attempt at carries ⊢
    generalize (enterConfigure s).lamps = driver at *
    rw [entered]
    refine ⟨rfl, rfl, rfl, rfl, rfl, fun f => Table.at_fill _ _, lamps, timer, rfl, fun w => Table.at_fill _ _, rfl, rfl,
      carries, rfl, rfl, rfl, rfl, rfl, rfl, rfl, fun w e timed opened => ?_⟩
    change ((moveGates s.ride.state .configure s).monitors.at w).running = false
    simp only [moveGates, State.setMonitors, State.setVoteTimers, Table.at_build, timed, keyOn]
    exact gateMonitor_configure e _ opened
  · rw [answered, doEnterConfigure, if_neg moving]
    rfl

/-! ### LEAVE CONFIGURE -/

theorem configuring_iff (s : State) : configuring s = true ↔
    s.inReset = false ∧ takesRequest s = true ∧ s.ride.state = .configure := by
  simp [configuring, and_assoc]

/-- The requests that CONFIGURE alone permits (R170). -/
def IsEditing (name : RequestName) : Prop := name.permitted .configure = true

section

variable {c : Byte} {args : List Byte} {s : State} {name : RequestName}

/-- A request of CONFIGURE whose arguments are legal is carried out. -/
theorem editing_carriesOut {r : Request} (inConfigure : configuring s = true) (short : args.length ≤ 7)
    (named : RequestName.ofCode c = some name) (editing : IsEditing name) (legal : requestOf name args = some r) :
    requestArrives (c :: args) s = .next (runSelector (carryOut r s)) := by
  obtain ⟨awake, taken, state⟩ := (configuring_iff s).mp inConfigure
  rw [requestArrives_decodes awake taken short, decodeCode_carriesOut named (by rw [state]; exact editing) legal]

/-- A request of CONFIGURE whose arguments are not legal is BAD_ARGUMENT. -/
theorem editing_badArgument (inConfigure : configuring s = true) (short : args.length ≤ 7)
    (named : RequestName.ofCode c = some name) (editing : IsEditing name) (illegal : requestOf name args = none) :
    requestArrives (c :: args) s = .next (runSelector (respond c .badArgument [] s)) := by
  obtain ⟨awake, taken, state⟩ := (configuring_iff s).mp inConfigure
  rw [requestArrives_decodes awake taken short, decodeCode_badArgument named (by rw [state]; exact editing) illegal]

end

/-- The argument byte of LEAVE CONFIGURE carries the commit flag in bit 0. -/
theorem leaveConfigure_answered {s : State} {flag : Byte} {rest : List Byte} {commit : Bool}
    (inConfigure : configuring s = true) (short : rest.length ≤ 6) (carries : flag.getLsbD 0 = commit) :
    requestArrives (0x41 :: flag :: rest) s = .next (runSelector (doLeaveConfigure commit s)) := by
  subst carries
  exact editing_carriesOut (args := flag :: rest) (name := .leaveConfigure) inConfigure (Nat.succ_le_succ short) rfl rfl
    rfl

/-- Settles O46: the commit's check decides between the write and BAD_ENTRY; an abandon begins the reload. -/
theorem leaveConfigureBegins : Obligations.LeaveConfigureBegins := by
  refine ⟨fun s flag rest inConfigure short commits => ⟨fun passes => ?_, fun x fails => ?_⟩,
    fun s flag rest inConfigure short abandons => ?_⟩
  · have answered : exec (.leaveConfigureCommit (flag :: rest)) s = _ :=
      leaveConfigure_answered inConfigure short commits
    rw [doLeaveConfigure, if_pos rfl, doCommit, passes] at answered
    dsimp only at answered
    obtain ⟨attempt, selected⟩ := runSelector_selected (beginTablesWrite (removeRecords (orphanRecord s)
      (beginWork (.commit (s.memory.records.filter (orphanRecord s)).length) s)))
    refine ⟨_, answered.trans (congrArg _ selected), ?_⟩
    intro orphan
    rw [beginTablesWrite_eq]
    obtain ⟨frame, records, full, flags, lamps⟩ := removeRecords_removed (orphanRecord s)
      (beginWork (.commit (s.memory.records.filter (orphanRecord s)).length) s)
    generalize removeRecords (orphanRecord s)
      (beginWork (.commit (s.memory.records.filter (orphanRecord s)).length) s) = u at *
    refine ⟨?_, records, flags, rfl, ?_, ?_, ?_, ?_, ?_, lamps⟩
    all_goals
      rw [frame]
      rfl
  · have answered : exec (.leaveConfigureCommit (flag :: rest)) s = _ :=
      leaveConfigure_answered inConfigure short commits
    rw [answered, doLeaveConfigure, if_pos rfl, doCommit, fails]
    rfl
  · have answered : exec (.leaveConfigureAbandon (flag :: rest)) s = _ :=
      leaveConfigure_answered inConfigure short abandons
    rw [answered, doLeaveConfigure, if_neg nofun]
    rfl

end Sys2Proof.Proofs
end

section
/-!
PROOFS. The checks of a commit in their order (R180).
-/

namespace Sys2Proof.Proofs

open Sys2Proof.Machine

/-! ### The first failure of a table -/

section

variable {α : Type} {n : Nat} {t : Table (Option α) n} {check : Fin n → α → Option CommitFailure}

theorem firstFailure_eq_none_iff :
    firstFailure t check = none ↔ ∀ i e, t.at i = some e → check i e = none := by
  simp only [firstFailure, List.findSome?_eq_none_iff, List.mem_finRange, forall_const]
  refine forall_congr' fun i => ?_
  cases t.at i <;> simp

/-- The failure found is the one of the first entry that fails. -/
theorem firstFailure_of_first {i : Fin n} {e : α} {x : CommitFailure} (held : t.at i = some e)
    (fails : check i e = some x) (first : ∀ j e, j < i → t.at j = some e → check j e = none) :
    firstFailure t check = some x := by
  obtain ⟨before, after, split⟩ := List.append_of_mem (List.mem_finRange i)
  have ascending := List.pairwise_lt_finRange n
  rw [split, List.pairwise_append] at ascending
  refine List.findSome?_eq_some_iff.mpr ⟨before, i, after, split, by rw [held]; exact fails, fun j mem => ?_⟩
  have earlier := ascending.2.2 j mem i (List.mem_cons_self ..)
  cases item : t.at j with
  | none => rfl
  | some e => exact first j e earlier item

/-- The outcome of a table whose failures are of a known form. -/
theorem firstFailure_spec {bad : Fin n → Reason → Prop} {report : Fin n → Reason → CommitFailure}
    (spec : ∀ i y, (∃ e, t.at i = some e ∧ check i e = some y) ↔ ∃ x, bad i x ∧ y = report i x) :
    ((∀ i x, ¬bad i x) → firstFailure t check = none) ∧
    ∀ i x, bad i x → (∀ j y, j < i → ¬bad j y) → firstFailure t check = some (report i x) := by
  have passes (i : Fin n) (good : ∀ x, ¬bad i x) (e : α) (held : t.at i = some e) : check i e = none := by
    by_contra fails
    obtain ⟨y, failure⟩ := Option.ne_none_iff_exists'.mp fails
    obtain ⟨x, isBad, -⟩ := (spec i y).mp ⟨e, held, failure⟩
    exact good x isBad
  refine ⟨fun good => firstFailure_eq_none_iff.mpr fun i => passes i (good i), fun i x isBad first => ?_⟩
  obtain ⟨e, held, fails⟩ := (spec i _).mpr ⟨x, isBad, rfl⟩
  exact firstFailure_of_first held fails fun j e earlier => passes j (fun y => first j y earlier) e

end

/-! ### The checks of one entry -/

theorem signalCount_eq (t : Tables) (w : Fin 32) : signalCount t w =
    ((List.finRange 64).filter fun j => (t.signals.at j).any fun x => x.watch == w).length := by
  unfold signalCount
  congr 2
  funext j
  cases t.signals.at j <;> rfl

theorem commitSignal_some_iff (t : Tables) (i : Fin 64) (e : SignalEntry) (y : CommitFailure) :
    commitSignal t i e = some y ↔ ∃ x, (t.watch.at e.watch = none ∧ x = .reference ∨
      ∃ w, t.watch.at e.watch = some w ∧ (8 * w.expectedLength < e.startBit + e.length ∧ x = .fieldPosition ∨
        e.startBit + e.length ≤ 8 * w.expectedLength ∧ x = .signalCount ∧ 8 < signalCount t e.watch)) ∧
      y = ⟨x, .signal, byteOf i.val⟩ := by
  unfold commitSignal
  cases t.watch.at e.watch with
  | none => simp [eq_comm]
  | some w =>
    by_cases outside : 8 * w.expectedLength < e.startBit + e.length
    · simp [outside, Nat.not_le.mpr outside, eq_comm]
    · by_cases many : 8 < signalCount t e.watch
      · simp [outside, many, Nat.not_lt.mp outside, eq_comm]
      · simp [outside, many]

theorem commitSignal_none_iff (t : Tables) (i : Fin 64) (e : SignalEntry) :
    commitSignal t i e = none ↔ ∃ w, t.watch.at e.watch = some w ∧
      e.startBit + e.length ≤ 8 * w.expectedLength ∧ signalCount t e.watch ≤ 8 := by
  unfold commitSignal
  cases t.watch.at e.watch with
  | none => simp
  | some w =>
    by_cases outside : 8 * w.expectedLength < e.startBit + e.length
    · simp [outside, Nat.not_le.mpr outside]
    · simp [outside, Nat.not_lt.mp outside]

theorem holdsRole_iff (t : Tables) (role : Role) :
    holdsRole t role = true ↔ ∃ i e, t.signals.at i = some e ∧ e.role = role := by
  simp only [holdsRole, List.any_eq_true, List.mem_finRange, true_and]
  refine exists_congr fun i => ?_
  cases t.signals.at i <;> simp

theorem commitRoles_none_iff (t : Tables) : commitRoles t = none ↔
    (∃ i e, t.signals.at i = some e ∧ e.role = .engineState) ∧
      ∃ i e, t.signals.at i = some e ∧ e.role = .vehicleSpeed := by
  rw [← holdsRole_iff, ← holdsRole_iff, commitRoles]
  split <;> simp_all

theorem commitRoles_some {t : Tables} (missing : commitRoles t ≠ none) :
    commitRoles t = some ⟨.roleMissing, .signal, 0xFF⟩ := by
  unfold commitRoles at missing ⊢
  split
  next held => exact absurd (if_pos held) missing
  next => rfl

theorem commitVote_none_iff (t : Tables) (k : Fin 4) (r : VoteRule) : commitVote t k r = none ↔
    t.signals.at r.memberA ≠ none ∧ t.signals.at r.memberB ≠ none ∧
      ∀ c, r.memberC = some c → t.signals.at c ≠ none := by
  unfold commitVote
  cases r.memberC <;> simp [Option.isSome_iff_ne_none, and_assoc]

theorem commitVote_some (t : Tables) (k : Fin 4) (r : VoteRule) (y : CommitFailure)
    (fails : commitVote t k r = some y) : y = ⟨.reference, .vote, byteOf k.val⟩ := by
  simp only [commitVote, Option.ite_none_left_eq_some, Option.some.injEq] at fails
  exact fails.2.symm

theorem sourceNamed_iff (t : Tables) (src : Source) : sourceNamed t src = true ↔
    (∀ k w, src = .frame k w → t.watch.at w ≠ none) ∧ (∀ k i, src = .signal k i → t.signals.at i ≠ none) ∧
      ∀ k v, src = .vote k v → t.votes.at v ≠ none := by
  cases src <;> simp [sourceNamed, Option.isSome_iff_ne_none]

/-- A fault definition refers to non-empty entries alone (R180). -/
def FaultNamed (t : Tables) (d : FaultDef) : Prop :=
  sourceNamed t d.source = true ∧ ∀ i ∈ d.capture, t.signals.at i ≠ none

theorem named_bool_iff (t : Tables) (d : FaultDef) :
    (sourceNamed t d.source && d.capture.all fun i => (t.signals.at i).isSome) = true ↔ FaultNamed t d := by
  simp [FaultNamed, Option.isSome_iff_ne_none]

theorem commitFault_of_named {t : Tables} {d : FaultDef} (f : Fin 64) (named : FaultNamed t d) : commitFault t f d =
    if d.agingRides ≠ 0 ∧ d.agingRides < d.lampOffRides then some ⟨.aging, .fault, byteOf (f.val + 1)⟩ else none :=
  if_pos ((named_bool_iff t d).mpr named)

theorem commitFault_of_unnamed {t : Tables} {d : FaultDef} (f : Fin 64) (unnamed : ¬FaultNamed t d) :
    commitFault t f d = some ⟨.reference, .fault, byteOf (f.val + 1)⟩ :=
  if_neg fun named => unnamed ((named_bool_iff t d).mp named)

theorem commitFault_none_iff (t : Tables) (f : Fin 64) (d : FaultDef) :
    commitFault t f d = none ↔ FaultNamed t d ∧ (d.agingRides = 0 ∨ d.lampOffRides ≤ d.agingRides) := by
  by_cases named : FaultNamed t d
  · simp only [commitFault_of_named f named, ite_eq_right_iff, reduceCtorEq, named, true_and, imp_false, not_and_or,
      not_not, not_lt]
  · simp [commitFault_of_unnamed f named, named]

theorem commitFault_some_iff (t : Tables) (f : Fin 64) (d : FaultDef) (y : CommitFailure) :
    commitFault t f d = some y ↔ ∃ x, (¬FaultNamed t d ∧ x = .reference ∨
      FaultNamed t d ∧ x = .aging ∧ d.agingRides ≠ 0 ∧ d.agingRides < d.lampOffRides) ∧
      y = ⟨x, .fault, byteOf (f.val + 1)⟩ := by
  by_cases named : FaultNamed t d
  · rw [commitFault_of_named f named]
    split
    next aging => simp [named, aging, eq_comm]
    next settled =>
      have fits (nonzero : d.agingRides ≠ 0) : ¬d.agingRides < d.lampOffRides := fun short => settled ⟨nonzero, short⟩
      simpa [named] using fun nonzero short => absurd short (fits nonzero)
  · simp [commitFault_of_unnamed f named, named, eq_comm]

/-! ### The checks together -/

theorem commitCheck_none_iff (t : Tables) : commitCheck t = none ↔
    (∀ i e, t.signals.at i = some e → commitSignal t i e = none) ∧ commitRoles t = none ∧
      (∀ k r, t.votes.at k = some r → commitVote t k r = none) ∧
      ∀ f d, t.faults.at f = some d → commitFault t f d = none := by
  simp only [← firstFailure_eq_none_iff]
  unfold commitCheck
  cases firstFailure t.signals (commitSignal t) with
  | some x => simp
  | none =>
    cases commitRoles t with
    | some x => simp
    | none => cases firstFailure t.votes (commitVote t) <;> simp

/-- A signal fails the checks for a reason (R180). -/
def SignalFails (t : Tables) (i : Fin 64) (x : Reason) : Prop := ∃ e, t.signals.at i = some e ∧
  (t.watch.at e.watch = none ∧ x = .reference ∨ ∃ w, t.watch.at e.watch = some w ∧
    (8 * w.expectedLength < e.startBit + e.length ∧ x = .fieldPosition ∨
      e.startBit + e.length ≤ 8 * w.expectedLength ∧ x = .signalCount ∧ 8 < signalCount t e.watch))

/-- A vote rule names an EMPTY signal (R180). -/
def VoteFails (t : Tables) (k : Fin 4) : Prop := ∃ r, t.votes.at k = some r ∧
  (t.signals.at r.memberA = none ∨ t.signals.at r.memberB = none ∨ ∃ c, r.memberC = some c ∧ t.signals.at c = none)

/-- A fault definition fails the checks for a reason (R180). -/
def FaultFails (t : Tables) (f : Fin 64) (x : Reason) : Prop := ∃ d, t.faults.at f = some d ∧
  (¬FaultNamed t d ∧ x = .reference ∨
    FaultNamed t d ∧ x = .aging ∧ d.agingRides ≠ 0 ∧ d.agingRides < d.lampOffRides)

theorem firstFailure_signals (t : Tables) :
    ((∀ i x, ¬SignalFails t i x) → firstFailure t.signals (commitSignal t) = none) ∧
    ∀ i x, SignalFails t i x → (∀ j y, j < i → ¬SignalFails t j y) →
      firstFailure t.signals (commitSignal t) = some ⟨x, .signal, byteOf i.val⟩ :=
  firstFailure_spec (report := fun i x => ⟨x, .signal, byteOf i.val⟩) fun i y => by
    simp only [commitSignal_some_iff]
    exact ⟨fun ⟨e, held, x, bad, same⟩ => ⟨x, ⟨e, held, bad⟩, same⟩,
      fun ⟨x, ⟨e, held, bad⟩, same⟩ => ⟨e, held, x, bad, same⟩⟩

theorem firstFailure_faults (t : Tables) :
    ((∀ f x, ¬FaultFails t f x) → firstFailure t.faults (commitFault t) = none) ∧
    ∀ f x, FaultFails t f x → (∀ g y, g < f → ¬FaultFails t g y) →
      firstFailure t.faults (commitFault t) = some ⟨x, .fault, byteOf (f.val + 1)⟩ :=
  firstFailure_spec (report := fun f x => ⟨x, .fault, byteOf (f.val + 1)⟩) fun f y => by
    simp only [commitFault_some_iff]
    exact ⟨fun ⟨d, held, x, bad, same⟩ => ⟨x, ⟨d, held, bad⟩, same⟩,
      fun ⟨x, ⟨d, held, bad⟩, same⟩ => ⟨d, held, x, bad, same⟩⟩

theorem voteFails_iff (t : Tables) (k : Fin 4) :
    VoteFails t k ↔ ∃ r, t.votes.at k = some r ∧ commitVote t k r = some ⟨.reference, .vote, byteOf k.val⟩ := by
  refine exists_congr fun r => and_congr_right fun _ => ?_
  have passes := commitVote_none_iff t k r
  cases outcome : commitVote t k r with
  | none =>
    obtain ⟨a, b, c⟩ := passes.mp outcome
    simpa [a, b] using c
  | some y =>
    have form := commitVote_some t k r y outcome
    subst form
    have fails := mt passes.mpr (by rw [outcome]; nofun)
    simp only [not_and_or, not_not, not_forall, exists_prop] at fails
    exact iff_of_true fails rfl

theorem firstFailure_votes (t : Tables) :
    ((∀ k, ¬VoteFails t k) → firstFailure t.votes (commitVote t) = none) ∧
    ∀ k, VoteFails t k → (∀ j, j < k → ¬VoteFails t j) →
      firstFailure t.votes (commitVote t) = some ⟨.reference, .vote, byteOf k.val⟩ := by
  have passes (k : Fin 4) (good : ¬VoteFails t k) (r : VoteRule) (held : t.votes.at k = some r) :
      commitVote t k r = none := by
    by_contra fails
    obtain ⟨y, failure⟩ := Option.ne_none_iff_exists'.mp fails
    exact good ((voteFails_iff t k).mpr ⟨r, held, commitVote_some t k r y failure ▸ failure⟩)
  refine ⟨fun good => firstFailure_eq_none_iff.mpr fun k => passes k (good k), fun k bad first => ?_⟩
  obtain ⟨r, held, fails⟩ := (voteFails_iff t k).mp bad
  exact firstFailure_of_first held fails fun j r earlier => passes j (first j earlier) r

theorem faultNamed_iff (t : Tables) (d : FaultDef) : FaultNamed t d ↔
    (∀ k w, d.source = .frame k w → t.watch.at w ≠ none) ∧ (∀ k i, d.source = .signal k i → t.signals.at i ≠ none) ∧
      (∀ k v, d.source = .vote k v → t.votes.at v ≠ none) ∧ ∀ i ∈ d.capture, t.signals.at i ≠ none := by
  rw [FaultNamed, sourceNamed_iff, and_assoc, and_assoc]

theorem not_faultNamed_iff (t : Tables) (d : FaultDef) : ¬FaultNamed t d ↔
    (∃ k w, d.source = .frame k w ∧ t.watch.at w = none) ∨ (∃ k i, d.source = .signal k i ∧ t.signals.at i = none) ∨
      (∃ k v, d.source = .vote k v ∧ t.votes.at v = none) ∨ ∃ i ∈ d.capture, t.signals.at i = none := by
  simp only [faultNamed_iff, not_and_or, not_forall, not_not, exists_prop]

/-- Settles O47: each table's first failure, tables in the order of `commitCheck`. -/
theorem commitChecksTables : Obligations.CommitChecksTables := by
  intro t
  refine ⟨?passing, ?failing⟩
  case passing =>
    simp only [commitCheck_none_iff, commitSignal_none_iff, commitRoles_none_iff, commitVote_none_iff,
      commitFault_none_iff, faultNamed_iff, signalCount_eq, and_assoc]
  case failing =>
    have signals := firstFailure_signals t
    have faults := firstFailure_faults t
    simp only [SignalFails, FaultFails, signalCount_eq] at signals faults
    intro badSignal held rolesHeld badVote unnamed badFault
    have names (d : FaultDef) : FaultNamed t d ↔ ¬unnamed d := (not_iff_comm.mp (not_faultNamed_iff t d)).symm
    simp only [names, not_not] at faults
    have roles := commitRoles_none_iff t
    refine ⟨fun i x bad first => ?_, fun good lost => ?_, fun good found k bad first => ?_,
      fun good found noBad f x bad first => ?_⟩
    · rw [commitCheck, signals.2 i x bad first]
    · simp only [commitCheck, signals.1 good, commitRoles_some (mt roles.mp lost)]
    · simp only [commitCheck, signals.1 good, roles.mpr found, (firstFailure_votes t).2 k bad first]
    · simp only [commitCheck, signals.1 good, roles.mpr found, (firstFailure_votes t).1 noBad, faults.2 f x bad first]

end Sys2Proof.Proofs
end

section
/-!
PROOFS. STORE ENTRY, FETCH ENTRY and ERASE ENTRY (R175 to R179, sections 10.4, 12.4).
-/

namespace Sys2Proof.Proofs

open Sys2Proof.Machine

/-! ### Entries named by table and index -/

theorem entryRefOf_watch {index : Byte} {i : Fin 32} (same : index.toNat = i.val) :
    entryRefOf (0 : Byte).toNat index.toNat = some (.watch i) := by
  simp [entryRefOf, TableName.ofCode, indexOf_val same]

theorem entryRefOf_signal {index : Byte} {i : Fin 64} (same : index.toNat = i.val) :
    entryRefOf (1 : Byte).toNat index.toNat = some (.signal i) := by
  simp [entryRefOf, TableName.ofCode, indexOf_val same]

theorem entryRefOf_vote {index : Byte} {k : Fin 4} (same : index.toNat = k.val) :
    entryRefOf (2 : Byte).toNat index.toNat = some (.vote k) := by
  simp [entryRefOf, TableName.ofCode, indexOf_val same]

theorem entryRefOf_fault {index : Byte} {f : Fin 64} (same : index.toNat = f.val + 1) :
    entryRefOf (3 : Byte).toNat index.toNat = some (.fault f) := by
  simp [entryRefOf, TableName.ofCode, faultOfNumber_val same]

/-- A table or an index outside its range names no entry (R170). -/
theorem entryRefOf_eq_none {table index : Byte} (outside : 4 < table.toNat ∨ table = 0 ∧ 32 ≤ index.toNat ∨
    table = 1 ∧ 64 ≤ index.toNat ∨ table = 2 ∧ 4 ≤ index.toNat ∨ table = 3 ∧ (index = 0 ∨ 64 < index.toNat) ∨
    table = 4 ∧ index ≠ 0) : entryRefOf table.toNat index.toNat = none := by
  rcases outside with beyond | ⟨rfl, beyond⟩ | ⟨rfl, beyond⟩ | ⟨rfl, beyond⟩ | ⟨rfl, beyond⟩ | ⟨rfl, beyond⟩
  · obtain ⟨k, code⟩ : ∃ k, table.toNat = k + 5 := ⟨table.toNat - 5, by omega⟩
    rw [code]
    rfl
  · simp [entryRefOf, TableName.ofCode, indexOf_eq_none beyond]
  · simp [entryRefOf, TableName.ofCode, indexOf_eq_none beyond]
  · simp [entryRefOf, TableName.ofCode, indexOf_eq_none beyond]
  · have number : index.toNat = 0 ∨ 64 < index.toNat := beyond.imp_left fun zero => by rw [zero]; rfl
    simp [entryRefOf, TableName.ofCode, faultOfNumber_eq_none number]
  · have nonzero : index.toNat ≠ 0 := fun zero => beyond (BitVec.eq_of_toNat_eq zero)
    simp [entryRefOf, TableName.ofCode, nonzero]

theorem val_of_indexOf {n b : Nat} {i : Fin n} (named : indexOf n b = some i) : i.val = b := by
  unfold indexOf at named
  split at named
  · cases named
    rfl
  · cases named

theorem number_of_faultOfNumber {b : Nat} {f : Fin 64} (named : faultOfNumber b = some f) : f.val + 1 = b := by
  unfold faultOfNumber at named
  split at named
  · cases named
  · have := val_of_indexOf named
    omega

theorem tableName_code_of_ofCode {n : Nat} {t : TableName} (named : TableName.ofCode n = some t) : t.code = n := by
  unfold TableName.ofCode at named
  split at named <;> cases named <;> rfl

/-- An entry carries the table and the index it is named by. -/
theorem codes_of_entryRefOf {table index : Nat} {entry : EntryRef} (named : entryRefOf table index = some entry) :
    entry.table.code = table ∧ entry.index = index := by
  unfold entryRefOf at named
  split at named
  next => cases named
  next code =>
    obtain ⟨i, val, rfl⟩ := Option.map_eq_some_iff.mp named
    exact ⟨tableName_code_of_ofCode code, val_of_indexOf val⟩
  next code =>
    obtain ⟨i, val, rfl⟩ := Option.map_eq_some_iff.mp named
    exact ⟨tableName_code_of_ofCode code, val_of_indexOf val⟩
  next code =>
    obtain ⟨i, val, rfl⟩ := Option.map_eq_some_iff.mp named
    exact ⟨tableName_code_of_ofCode code, val_of_indexOf val⟩
  next code =>
    obtain ⟨f, val, rfl⟩ := Option.map_eq_some_iff.mp named
    exact ⟨tableName_code_of_ofCode code, number_of_faultOfNumber val⟩
  next code =>
    split at named
    next zero =>
      cases named
      exact ⟨tableName_code_of_ofCode code, zero.symm⟩
    next => cases named

/-! ### The three requests -/

section

variable {s : State} {table index : Byte} {rest : List Byte} {entry : EntryRef}

theorem storeEntry_answered (inConfigure : configuring s = true) (short : rest.length ≤ 5)
    (named : entryRefOf table.toNat index.toNat = some entry) :
    exec (.storeEntry (table :: index :: rest)) s = .next (runSelector (doStoreEntry entry s)) :=
  editing_carriesOut (args := table :: index :: rest) (name := .storeEntry) (r := .storeEntry entry) inConfigure
    (Nat.succ_le_succ (Nat.succ_le_succ short)) rfl rfl (by simp [requestOf, twoArguments, named])

theorem fetchEntry_answered (inConfigure : configuring s = true) (short : rest.length ≤ 5)
    (named : entryRefOf table.toNat index.toNat = some entry) :
    exec (.fetchEntry (table :: index :: rest)) s = .next (runSelector (doFetchEntry entry s)) :=
  editing_carriesOut (args := table :: index :: rest) (name := .fetchEntry) (r := .fetchEntry entry) inConfigure
    (Nat.succ_le_succ (Nat.succ_le_succ short)) rfl rfl (by simp [requestOf, twoArguments, named])

theorem eraseEntry_answered (inConfigure : configuring s = true) (short : rest.length ≤ 5)
    (named : entryRefOf table.toNat index.toNat = some entry) :
    exec (.eraseEntry (table :: index :: rest)) s =
      .next (runSelector (respond 0x52 .ok [] (eraseEntryAt entry s))) :=
  editing_carriesOut (args := table :: index :: rest) (name := .eraseEntry) (r := .eraseEntry entry) inConfigure
    (Nat.succ_le_succ (Nat.succ_le_succ short)) rfl rfl (by simp [requestOf, twoArguments, named])

/-- A request of an entry that is none is BAD_ARGUMENT. -/
theorem entry_badArgument {c : Byte} {name : RequestName} (inConfigure : configuring s = true) (short : rest.length ≤ 5)
    (named : RequestName.ofCode c = some name) (editing : name = .storeEntry ∨ name = .fetchEntry ∨ name = .eraseEntry)
    (outside : entryRefOf table.toNat index.toNat = none) :
    requestArrives (c :: table :: index :: rest) s = .next (runSelector (respond c .badArgument [] s)) := by
  refine editing_badArgument (args := table :: index :: rest) inConfigure (Nat.succ_le_succ (Nat.succ_le_succ short))
    named ?_ ?_
  · rcases editing with rfl | rfl | rfl <;> rfl
  · rcases editing with rfl | rfl | rfl <;> simp [requestOf, twoArguments, outside]

/-- An entry that a check refuses is answered BAD_ENTRY with its reason, table and index (R176). -/
theorem storeEntry_refused {reason : Reason} (inConfigure : configuring s = true) (short : rest.length ≤ 5)
    (named : entryRefOf table.toNat index.toNat = some entry) (fails : storeEntryOutcome entry s = .inl reason) :
    exec (.storeEntry (table :: index :: rest)) s = .next (runSelector { s with
      tx := { s.tx with response := some ⟨0x50, .badEntry, [byteOf reason.code, table, index]⟩ },
      mgmt := { s.mgmt with inbox := .answered } }) := by
  obtain ⟨code, number⟩ := codes_of_entryRefOf named
  have bytes : badEntryData reason entry.table (byteOf entry.index) = [byteOf reason.code, table, index] := by
    simp [badEntryData, code, number, byteOf]
  rw [storeEntry_answered inConfigure short named, doStoreEntry, fails]
  dsimp only
  rw [bytes]
  rfl

/-- An entry that passes every check is stored, and answered OK. -/
theorem storeEntry_stored {t : State} {data : List Byte} (inConfigure : configuring s = true) (short : rest.length ≤ 5)
    (named : entryRefOf table.toNat index.toNat = some entry) (passes : storeEntryOutcome entry s = .inr (t, data)) :
    exec (.storeEntry (table :: index :: rest)) s = .next (runSelector (respond 0x50 .ok data t)) := by
  rw [storeEntry_answered inConfigure short named, doStoreEntry, passes]

end

theorem bufferImage_eq (s : State) (t : TableName) :
    bufferImage s t = (List.range (imageLength t)).map fun a => Mem.read bufferFill s.mgmt.buffer a := by
  simp [bufferImage, Mem.bytes]

section

variable {α : Type} {decoded : Option α} {reason : α → Option Reason} {put : α → State → State} {s : State}

theorem storeOutcome_range (undecoded : decoded = none) : storeOutcome decoded reason put s = .inl .range := by
  rw [undecoded]
  rfl

theorem storeOutcome_refused {e : α} {r : Reason} (decodes : decoded = some e) (fails : reason e = some r) :
    storeOutcome decoded reason put s = .inl r := by
  rw [decodes]
  simp only [storeOutcome, fails]

theorem storeOutcome_put {e : α} (decodes : decoded = some e) (passes : reason e = none) :
    storeOutcome decoded reason put s = .inr (put e s, []) := by
  rw [decodes]
  simp only [storeOutcome, passes]

end

/-! ### What is refused -/

theorem otherHas_iff {α : Type} {n : Nat} (t : Table (Option α) n) (i : Fin n) (p : α → Bool) :
    otherHas t i p = true ↔ ∃ j x, j ≠ i ∧ t.at j = some x ∧ p x = true := by
  simp only [otherHas, List.any_eq_true, List.mem_finRange, true_and, Bool.and_eq_true, bne_iff_ne]
  refine exists_congr fun j => ?_
  cases t.at j <;> simp

theorem voteRule_consistent_eq_false {e : VoteRule}
    (twice : e.memberA = e.memberB ∨ e.memberC = some e.memberA ∨ e.memberC = some e.memberB) :
    e.consistent = false := by
  unfold VoteRule.consistent
  rcases twice with same | same | same <;> simp [same]

/-- Settles O49: each table's checks in their order, with the reason's code. -/
theorem storeEntryRefuses : Obligations.StoreEntryRefuses := by
  intro s index rest inConfigure short image refused
  have named (t : TableName) (n : Nat) (length : imageLength t = n) : bufferImage s t = image n := by
    rw [bufferImage_eq, length]
  have watch := named .watch 17 rfl
  have signal := named .signal 17 rfl
  have vote := named .vote 11 rfl
  have fault := named .fault 20 rfl
  refine ⟨fun i number => ?_, fun i number => ?_, fun k number => ?_, fun f number => ?_, fun table outside => ?_⟩
  · have refuse {r : Reason} (fails : storeEntryOutcome (.watch i) s = .inl r) : refused 0 (byteOf r.code) :=
      storeEntry_refused inConfigure short (entryRefOf_watch number) fails
    rw [← watch]
    refine ⟨fun undecoded => refuse (storeOutcome_range undecoded), fun e decodes =>
      ⟨fun bad => ?_, fun good part => ?_, fun good other duplicate => ?_⟩⟩
    · exact refuse (r := .layout) (storeOutcome_refused decodes (by simp [watchReason, bad]))
    · exact refuse (r := .partIdentifier) (storeOutcome_refused decodes (by simp [watchReason, good, part]))
    · have held : otherHas s.tables.watch i (fun x => x.identifier == e.identifier) = true := by
        simpa [otherHas_iff] using duplicate
      exact refuse (r := .duplicate) (storeOutcome_refused decodes (by simp [watchReason, good, other, held]))
  · have refuse {r : Reason} (fails : storeEntryOutcome (.signal i) s = .inl r) : refused 1 (byteOf r.code) :=
      storeEntry_refused inConfigure short (entryRefOf_signal number) fails
    rw [← signal]
    refine ⟨fun undecoded => refuse (storeOutcome_range undecoded), fun e decodes =>
      ⟨fun inverted => ?_, fun ordered role duplicate => ?_⟩⟩
    · have bad : e.consistent = false := by simp [SignalEntry.consistent, inverted]
      exact refuse (r := .layout) (storeOutcome_refused decodes (by simp [signalReason, bad]))
    · have good : e.consistent = true := by simp [SignalEntry.consistent, ordered]
      have held : otherHas s.tables.signals i (fun x => x.role == e.role) = true := by
        simpa [otherHas_iff] using duplicate
      exact refuse (r := .duplicate) (storeOutcome_refused decodes (by simp [signalReason, good, role, held]))
  · have refuse {r : Reason} (fails : storeEntryOutcome (.vote k) s = .inl r) : refused 2 (byteOf r.code) :=
      storeEntry_refused inConfigure short (entryRefOf_vote number) fails
    rw [← vote]
    refine ⟨fun undecoded => refuse (storeOutcome_range undecoded), fun e decodes twice => ?_⟩
    have bad := voteRule_consistent_eq_false twice
    exact refuse (r := .layout) (storeOutcome_refused decodes (by simp [voteReason, bad]))
  · have refuse {r : Reason} (fails : storeEntryOutcome (.fault f) s = .inl r) : refused 3 (byteOf r.code) :=
      storeEntry_refused inConfigure short (entryRefOf_fault number) fails
    rw [← fault]
    refine ⟨fun undecoded => refuse (storeOutcome_range undecoded), fun e decodes duplicate => ?_⟩
    have held : otherHas s.tables.faults f (fun x => x.source == e.source) = true := by
      simpa [otherHas_iff] using duplicate
    exact refuse (r := .duplicate) (storeOutcome_refused decodes (by simp [faultReason, held]))
  · exact entry_badArgument inConfigure short rfl (.inl rfl) (entryRefOf_eq_none outside)

end Sys2Proof.Proofs
end

section
/-!
PROOFS. What STORE ENTRY stores, what FETCH ENTRY answers and what ERASE ENTRY resets (R175, R177 to R179).
-/

namespace Sys2Proof.Proofs

open Sys2Proof.Machine

/-! ### STORE ENTRY -/

theorem followsConditions_of_configuring {s : State} (inConfigure : configuring s = true) :
    followsConditions s = true := by
  simp [followsConditions, ((configuring_iff s).mp inConfigure).2.2]

/-- A signal that passes the checks is the only one to hold its role (R176 stage 3). -/
theorem sole_of_signalReason {s : State} {i : Fin 64} {e : SignalEntry} {role : Role}
    (passes : signalReason s i e = none) (holds : e.role = role) (some : role ≠ .none) :
    ∀ j, j ≠ i → ∀ x, s.tables.signals.at j = .some x → x.role ≠ role := by
  intro j other x held same
  have duplicate : otherHas s.tables.signals i (fun x => x.role == e.role) = true :=
    (otherHas_iff _ _ _).mpr ⟨j, x, other, held, by simp [same, holds]⟩
  have named : (e.role != .none) = true := by simpa [holds] using some
  simp only [signalReason, named, duplicate, Bool.and_self, if_true] at passes
  split at passes <;> cases passes

/-- Settles O48: the entry is put at its index with its runtime; `replaceSignal_spec` says what a signal ends. -/
theorem storeEntryStores : Obligations.StoreEntryStores := by
  intro s index rest inConfigure short image answered regulating
  have named (t : TableName) (n : Nat) (length : imageLength t = n) : bufferImage s t = image n := by
    rw [bufferImage_eq, length]
  refine ⟨fun i e number decodes passes => ?_, fun i e number decodes passes => ?_,
    fun k e number decodes passes => ?_, fun f e number decodes passes => ?_⟩
  · have stored := storeEntry_stored (t := storeWatch i e s) inConfigure short (entryRefOf_watch number)
      (storeOutcome_put ((congrArg _ (named .watch 17 rfl)).trans decodes) passes)
    obtain ⟨attempt, selected⟩ := runSelector_selected (respond 0x50 .ok [] (storeWatch i e s))
    exact ⟨_, stored.trans (congrArg _ selected), ⟨rfl, rfl, rfl, rfl, rfl, rfl, rfl⟩, rfl, rfl, rfl⟩
  · have stored := storeEntry_stored (t := replaceSignal i (some e) s) inConfigure short (entryRefOf_signal number)
      (storeOutcome_put ((congrArg _ (named .signal 17 rfl)).trans decodes) passes)
    obtain ⟨attempt, selected⟩ := runSelector_selected (respond 0x50 .ok [] (replaceSignal i (some e) s))
    obtain ⟨frame, ends, keeps⟩ := replaceSignal_spec s i (some e) (followsConditions_of_configuring inConfigure)
      fun x same holds => sole_of_signalReason passes (Option.some.inj same ▸ holds) nofun
    generalize replaceSignal i (some e) s = u at *
    refine ⟨_, stored.trans (congrArg _ selected), ⟨rfl, ?_, ?_, ?_, ?_, ?_, ?_⟩, ?_, ?_, ?_, ends, keeps⟩
    all_goals
      rw [frame]
      rfl
  · have stored := storeEntry_stored (t := replaceVote k (some e) s) inConfigure short (entryRefOf_vote number)
      (storeOutcome_put ((congrArg _ (named .vote 11 rfl)).trans decodes) passes)
    obtain ⟨attempt, selected⟩ := runSelector_selected (respond 0x50 .ok [] (replaceVote k (some e) s))
    exact ⟨_, stored.trans (congrArg _ selected), ⟨rfl, rfl, rfl, rfl, rfl, rfl, rfl⟩, rfl, rfl, rfl⟩
  · have stored := storeEntry_stored (t := replaceFault f (some e) s) inConfigure short (entryRefOf_fault number)
      (storeOutcome_put ((congrArg _ (named .fault 20 rfl)).trans decodes) passes)
    obtain ⟨attempt, selected⟩ := runSelector_selected (respond 0x50 .ok [] (replaceFault f (some e) s))
    exact ⟨_, stored.trans (congrArg _ selected), ⟨rfl, rfl, rfl, rfl, rfl, rfl, rfl⟩, rfl, rfl, rfl⟩

/-! ### STORE ENTRY of SETTINGS -/

/-- Which of the twelve ranged settings differ. -/
def settingChanges (x e : Settings) : List Bool :=
  [decide (x.ignitionBlanking ≠ e.ignitionBlanking), decide (x.crankTail ≠ e.crankTail),
    decide (x.supplyTail ≠ e.supplyTail), decide (x.absTail ≠ e.absTail),
    decide (x.portTail ≠ e.portTail), decide (x.silenceTime ≠ e.silenceTime),
    decide (x.qualifyRun ≠ e.qualifyRun), decide (x.qualifySpeed ≠ e.qualifySpeed),
    decide (x.proveOutTime ≠ e.proveOutTime), decide (x.lampStretch ≠ e.lampStretch),
    decide (x.beaconPeriod ≠ e.beaconPeriod), decide (x.noticeLevel ≠ e.noticeLevel)]

theorem bne_eq_decide_ne {α : Type} [DecidableEq α] (x y : α) : (x != y) = decide (y ≠ x) := by
  by_cases same : x = y
  · simp [same]
  · simp [same, Ne.symm same]

theorem clampCount_eq (e : Settings) : e.clampCount = (settingChanges e.clamped e).count true := by
  simp only [Settings.clampCount, settingChanges, bne_eq_decide_ne, List.count, List.countP_eq_length_filter, beq_true]

theorem clampCount_le (e : Settings) : e.clampCount ≤ 12 :=
  clampCount_eq e ▸ List.count_le_length (l := settingChanges e.clamped e)

theorem clampCount_eq_zero_iff (e : Settings) : e.clampCount = 0 ↔ e.clamped = e := by
  rw [clampCount_eq, List.count_eq_zero]
  refine ⟨fun none => ?_, fun same => by simp [settingChanges, same]⟩
  simp only [settingChanges, List.mem_cons, List.not_mem_nil, or_false, eq_comm (a := true), decide_eq_true_eq, not_or,
    not_not] at none
  obtain ⟨a, b, c, d, e', f, g, h, i, j, k, l⟩ := none
  cases e
  simp only [Settings.clamped] at *
  simp only [a, b, c, d, e', f, g, h, i, j, k, l]

theorem clamp_eq_min (hi n : Nat) : clamp 0 hi n = min n hi := by
  unfold clamp
  split_ifs <;> omega

theorem clamp_eq_max_min {lo hi : Nat} (n : Nat) (order : lo ≤ hi) : clamp lo hi n = max lo (min n hi) := by
  unfold clamp
  split_ifs <;> omega

theorem clampSpeed_eq (v : Int) : clampSpeed v = max 0 (min v 32767) := by
  unfold clampSpeed
  split_ifs <;> omega

theorem clampBeacon_spec (n : Nat) : (n = 0 → clampBeacon n = 0) ∧ (1 ≤ n → n ≤ 99 → clampBeacon n = 100) ∧
    (100 ≤ n → n ≤ 5000 → clampBeacon n ≤ n ∧ n < clampBeacon n + 100 ∧ clampBeacon n % 100 = 0) ∧
    (5000 < n → clampBeacon n = 5000) := by
  unfold clampBeacon
  split_ifs <;> omega

/-- Settles O50: each setting is clamped to its range, and the changed ones are counted. -/
theorem settingsStoredClamped : Obligations.SettingsStoredClamped := by
  intro s rest e inConfigure short decodes
  have image := bufferImage_eq s .settings
  simp only [imageLength] at image
  rw [← image] at decodes
  have outcome : storeEntryOutcome .settings s = .inr (replaceSettings e.clamped s, [byteOf e.clampCount]) := by
    simp only [storeEntryOutcome, EntryRef.table, decodes]
  have stored := storeEntry_stored (table := 4) (index := 0) inConfigure short rfl outcome
  obtain ⟨attempt, selected⟩ := runSelector_selected (respond 0x50 .ok [byteOf e.clampCount]
    (replaceSettings e.clamped s))
  have count : (byteOf e.clampCount).toNat = e.clampCount := by
    have small := clampCount_le e
    exact toNat_byteOf (by omega)
  refine ⟨_, stored.trans (congrArg _ selected), rfl, ⟨_, rfl, ?_, ?_, ?_⟩, ?_⟩
  · rw [count]
    exact clampCount_le e
  · change _ ↔ e.clamped = e
    rw [← clampCount_eq_zero_iff, ← BitVec.toNat_inj, count]
    rfl
  · exact count.trans (clampCount_eq e)
  · exact ⟨⟨clamp_eq_min _ _, clamp_eq_min _ _, clamp_eq_min _ _, clamp_eq_min _ _, clamp_eq_min _ _⟩,
      ⟨clamp_eq_max_min _ (by decide), clamp_eq_max_min _ (by decide), clampSpeed_eq _, clamp_eq_max_min _ (by decide),
        clamp_eq_min _ _⟩, clampBeacon_spec e.beaconPeriod, clamp_eq_min _ _, rfl⟩

/-! ### FETCH ENTRY and ERASE ENTRY -/

/-- Settles O51: the image is the whole buffer after a FETCH ENTRY; an erased entry's runtime is at its reset values. -/
theorem fetchAndEraseEntryAnswer : Obligations.FetchAndEraseEntryAnswer := by
  refine ⟨fun s table index rest entry inConfigure short named => ?fetch, fun s index rest inConfigure short => ?erase,
    fun s table index rest inConfigure short outside => ?outside⟩
  case fetch =>
    have answered := fetchEntry_answered inConfigure short named
    refine ⟨fun vacant => ?_, fun image held => ?_⟩
    · rw [answered, doFetchEntry, vacant]
      rfl
    · rw [answered, doFetchEntry, held]
      exact ⟨_, rfl, rfl, fun a _ => read_ofBytes_start bufferFill image a⟩
  case erase =>
    intro answered regulating
    refine ⟨fun i number => ?_, fun i number => ?_, fun k number => ?_, fun f number => ?_, fun zero => ?_⟩
    · have erased := eraseEntry_answered inConfigure short (entryRefOf_watch number)
      obtain ⟨attempt, selected⟩ := runSelector_selected (respond 0x52 .ok [] (eraseEntryAt (.watch i) s))
      exact ⟨_, erased.trans (congrArg _ selected), ⟨rfl, rfl, rfl, rfl, rfl⟩, rfl, rfl, rfl, rfl⟩
    · have erased := eraseEntry_answered inConfigure short (entryRefOf_signal number)
      rw [eraseEntryAt] at erased
      obtain ⟨attempt, selected⟩ := runSelector_selected (respond 0x52 .ok [] (replaceSignal i none s))
      obtain ⟨frame, ends, keeps⟩ :=
        replaceSignal_spec s i none (followsConditions_of_configuring inConfigure) nofun
      generalize replaceSignal i none s = u at *
      refine ⟨_, erased.trans (congrArg _ selected), ⟨rfl, ?_, ?_, ?_, ?_⟩, ?_, ?_, ?_, ends, keeps⟩
      all_goals
        rw [frame]
        rfl
    · have erased := eraseEntry_answered inConfigure short (entryRefOf_vote number)
      obtain ⟨attempt, selected⟩ := runSelector_selected (respond 0x52 .ok [] (eraseEntryAt (.vote k) s))
      exact ⟨_, erased.trans (congrArg _ selected), ⟨rfl, rfl, rfl, rfl, rfl⟩, rfl, rfl, rfl⟩
    · have erased := eraseEntry_answered inConfigure short (entryRefOf_fault number)
      obtain ⟨attempt, selected⟩ := runSelector_selected (respond 0x52 .ok [] (eraseEntryAt (.fault f) s))
      exact ⟨_, erased.trans (congrArg _ selected), ⟨rfl, rfl, rfl, rfl, rfl⟩, rfl, rfl, rfl⟩
    · subst zero
      have erased := eraseEntry_answered (s := s) (table := 4) (index := 0) (entry := .settings) inConfigure short rfl
      obtain ⟨attempt, selected⟩ := runSelector_selected (respond 0x52 .ok [] (eraseEntryAt .settings s))
      exact ⟨_, erased.trans (congrArg _ selected), ⟨rfl, rfl, rfl, rfl, rfl⟩, rfl, rfl⟩
  case outside =>
    have noEntry := entryRefOf_eq_none outside
    exact ⟨entry_badArgument inConfigure short rfl (.inr (.inl rfl)) noEntry,
      entry_badArgument inConfigure short rfl (.inr (.inr rfl)) noEntry⟩

end Sys2Proof.Proofs
end

section
/-!
PROOFS. A command leaves the queue: whatever it does, the waiting commands stay (section 0.8, log 3).
-/

namespace Sys2Proof.Proofs

open Sys2Proof.Machine

/-- The queue of commands is `p`. -/
def Waiting (p : List Instr) (s : State) : Prop := s.pending = p

namespace Waiting

variable {p : List Instr}

theorem stable : Stable (Waiting p) where
  sample src x s h := (takeSample_frame src x s).pending.trans h
  notice _ _ h := h
  selector {s} h := by rw [runSelector_eq_with_attempt]; exact h
  begins cls _ h := by unfold beginClass; split <;> exact h
  ends cls _ h := by unfold endClass; dsimp only; split <;> exact h
  freeUses _ _ h := h
  chassis _ _ _ h := h
  arrival _ h := h
  reload _ h := h
  watchRt _ _ h := h
  substitute w e _ h := by
    unfold offerSubstitute
    split
    · split <;> exact h
    · exact h
  offer _ _ _ _ h := h
  enqueue _ _ _ h := by unfold enqueueFrame; split <;> exact h
  signal _ _ _ _ h := h
  histories _ _ h := h
  engine _ _ _ _ h := h
  speed h := h
  absReady h := h
  vote _ _ h := h

/-! ### Rides, loads and supply -/

theorem rideStart {s : State} (h : Waiting p s) : Waiting p (Machine.rideStart s) := by
  unfold Machine.rideStart
  rw [rideStartGates_eq]
  exact stable.samples _ (stable.notices _ h)

theorem finishClosing {s : State} (h : Waiting p s) : Waiting p (Machine.finishClosing s) := by
  unfold Machine.finishClosing
  split
  · rw [enterAsleep_eq]; exact h
  · rw [enterSettling_eq]; exact h

theorem enterClosing {s : State} (h : Waiting p s) : Waiting p (Machine.enterClosing s) := by
  unfold Machine.enterClosing
  extract_lets qualified u v
  have closed : Waiting p u := by
    simp only [u]
    rw [closingValues_eq]
    exact h
  have processed : Waiting p v := by
    simp only [v]
    split
    · exact (closeRecords_frame ((u.setRide { u.ride with rideNumber := min (u.ride.rideNumber + 1) 65535 }).setMemory
        { u.memory with dirty := true })).pending.trans closed
    · exact closed
  split
  · rw [beginMemoryWrite_eq]; exact processed
  · exact processed.finishClosing

theorem startOrClose {s : State} (h : Waiting p s) : Waiting p (Machine.startOrClose s) := by
  unfold Machine.startOrClose
  split
  · exact h.rideStart
  · exact h.enterClosing

theorem ignChanged (level : Level) {s : State} (h : Waiting p s) : Waiting p (Machine.ignChanged level s) := by
  unfold Machine.ignChanged
  split
  · rw [enterSettling_eq]; exact h
  · exact h.enterClosing
  · exact h.enterClosing
  · exact h.enterClosing
  · split
    · exact h
    · exact h.enterClosing
    · exact h.enterClosing
  all_goals exact h

theorem loadTables {s : State} (h : Waiting p s) : Waiting p (Machine.loadTables s) := by
  unfold Machine.loadTables
  split <;> rw [installTables_eq] <;> exact h

theorem loadMemory {s : State} (h : Waiting p s) : Waiting p (Machine.loadMemory s) := by
  unfold Waiting
  rw [loadMemory_eq]
  split <;> exact h

theorem endOfWork {s : State} (h : Waiting p s) : Waiting p (Machine.endOfWork s) :=
  stable.selector (startOrClose (s := Machine.respond _ _ _ s) h)

/-! ### Requests -/

theorem respond (c : Byte) (r : Result) (d : List Byte) {s : State} (h : Waiting p s) :
    Waiting p (Machine.respond c r d s) := h

theorem replaceSignal (i : Fin 64) (x : Option SignalEntry) {s : State} (h : Waiting p s) :
    Waiting p (Machine.replaceSignal i x s) := stable.replaceSignal i x h

theorem storeEntry {entry : EntryRef} {s t : State} {data : List Byte} (h : Waiting p s)
    (stored : storeEntryOutcome entry s = .inr (t, data)) : Waiting p t := by
  cases entry with
  | watch i =>
    obtain ⟨e, -, -, rfl, -⟩ := GatesAndOperations.storeOutcome_stored stored
    exact h
  | signal i =>
    obtain ⟨e, -, -, rfl, -⟩ := GatesAndOperations.storeOutcome_stored stored
    exact h.replaceSignal i _
  | vote k =>
    obtain ⟨e, -, -, rfl, -⟩ := GatesAndOperations.storeOutcome_stored stored
    exact h
  | fault f =>
    obtain ⟨e, -, -, rfl, -⟩ := GatesAndOperations.storeOutcome_stored stored
    exact h
  | settings =>
    simp only [storeEntryOutcome] at stored
    split at stored <;> cases stored
    exact h

theorem carryOut (r : Request) {s : State} (h : Waiting p s) : Waiting p (Machine.carryOut r s) := by
  cases r with
  | status | readFault _ | readBuffer _ | writeBuffer _ _ | setNoticeMask _ _ => exact h
  | readSignal i =>
    simp only [Machine.carryOut, doReadSignal]
    split <;> exact h
  | peekMonitor w =>
    simp only [Machine.carryOut, doPeekMonitor]
    split <;> exact h
  | fetchRecord k =>
    simp only [Machine.carryOut, doFetchRecord]
    split
    · exact respond _ _ _ h
    · exact respond (s := fillBuffer _ s) _ _ _ h
  | clearRecords mask => exact (removeRecords_frame _ s).pending.trans h
  | enterConfigure =>
    simp only [Machine.carryOut, doEnterConfigure]
    split
    · rw [enterConfigure_eq]; exact h
    · exact h
  | leaveConfigure commit =>
    simp only [Machine.carryOut, doLeaveConfigure]
    split
    · unfold doCommit
      split
      · exact h
      · rw [beginTablesWrite_eq]
        exact (removeRecords_frame (orphanRecord s) (beginWork _ s)).pending.trans h
    · exact h
  | storeEntry e =>
    simp only [Machine.carryOut, doStoreEntry]
    split
    · exact h
    next stored => exact (h.storeEntry stored).respond _ _ _
  | fetchEntry e =>
    simp only [Machine.carryOut, doFetchEntry]
    split
    · exact respond _ _ _ h
    · exact respond (s := fillBuffer _ s) _ _ _ h
  | eraseEntry e =>
    cases e with
    | signal i => exact respond _ _ _ (h.replaceSignal i none)
    | watch _ | vote _ | fault _ | settings => exact h

/-! ### Attempts -/

theorem completeItem (a : Attempt) {s : State} (h : Waiting p s) : Waiting p (Machine.completeItem a s) := by
  unfold Machine.completeItem
  split
  · exact h
  · split <;> exact h
  · exact h
  · exact h
  · split <;> exact h
  · exact h

theorem attemptFails {s : State} (h : Waiting p s) : Waiting p (Machine.attemptFails s) := by
  unfold Machine.attemptFails
  extract_lets u
  split
  · exact stable.sample _ _ (s := u.setTx { u.tx with offline := some 100 }) h
  · exact stable.selector (s := u) h

/-- An effect other than a tick leaves the waiting commands. -/
theorem effect {s t : State} (h : Waiting p s) (effect : Effect False s t) : Waiting p t := by
  cases effect with
  | idle => exact h
  | @tick _ impossible => exact impossible.elim
  | powerOnReset | leaveReset _ _ => exact h
  | frame id _ short => exact stable.takeFrame id short h
  | busError _ => exact stable.takeBusError h
  | silence _ => exact stable.silenceExpires h
  | monitor timed _ => exact stable.selector (stable.monitorExpires timed h)
  | period timed _ => exact stable.selector (stable.periodExpires timed h)
  | vote rule due => exact stable.selector (stable.voteExpires rule due h)
  | pins _ => exact h
  | ignChange level pins =>
    exact stable.selector (ignChanged level
      (s := (s.setPins pins).setRide { s.ride with ign := level, ignCount := 0 }) h)
  | bandChange new pins =>
    obtain ⟨c, l, changed⟩ := bandChanged_eq new (s.setPins pins)
    rw [changed]
    exact h
  | load _ => exact stable.selector (startOrClose (loadMemory (loadTables (s := endOp s) h)))
  | memoryWrite _ =>
    unfold memoryWriteCompletes
    rw [finishMemoryWrite_eq]
    exact finishClosing h
  | tablesWrite _ =>
    rw [finishTablesWrite_eq]
    exact endOfWork h
  | reload _ => exact endOfWork (loadTables (s := endOp s) h)
  | tail _ | ignition _ | proveOut _ | stretch _ | flash _ => exact h
  | success _ => exact stable.selector (completeItem _ (s := endAttempt _ s) h)
  | failure _ => exact h.attemptFails
  | outbid _ => exact stable.selector (s := endAttempt _ s) h
  | offlineEnd _ =>
    exact stable.selector (stable.sample _ _ (s := s.setTx { s.tx with offline := none, errorCount := 0 }) h)
  | beacon _ => exact stable.selector (s := s.setTx _) h
  | answer c r u _ => exact stable.selector (s := Machine.respond c r [] (s.setFreeUses u)) h
  | request _ _ => exact stable.selector (h.carryOut _)

end Waiting

theorem exec_pending {c : Instr} {s t : State} (answered : exec c s = .next t) : t.pending = s.pending :=
  Waiting.effect rfl (exec_effect answered)

end Sys2Proof.Proofs
end

section
/-!
PROOFS. Commands in general, power-on reset, and the small expiries (R1, R70, R82, R84, R85, R151 to R153, R162, R168).
-/

namespace Sys2Proof.Proofs

open Sys2Proof.Machine

/-! ### Steps and commands -/

/-- Settles O1: a step on a waiting queue is one case of `step`. -/
theorem stepRunsFrontCommand : Obligations.StepRunsFrontCommand := by
  intro c rest s waiting
  unfold step
  split
  next empty => cases waiting.symm.trans empty
  next front =>
    obtain ⟨rfl, rfl⟩ := List.cons.inj (waiting.symm.trans front)
    rfl

/-- A command other than the two of the supply is an event, refused where its frame does not fit. -/
theorem exec_isEvent (c : Instr) (s : State) (notReset : c ≠ .powerOnReset)
    (notLeave : ∀ a b, c ≠ .leavePowerOnReset a b) : ∃ (possible : Prop) (_ : Decidable possible) (f : State → State),
      exec c s = if fitsFrame c.frameBytes then eventWhen possible f s else .refused .notAFrame := by
  cases c
  case powerOnReset => exact absurd rfl notReset
  case leavePowerOnReset a b => exact absurd rfl (notLeave a b)
  all_goals exact ⟨_, _, _, rfl⟩

/-- Settles O2: an event always answers a next state, and in power-on reset that state is its own. -/
theorem commandsComplete : Obligations.CommandsComplete := by
  intro c s
  by_cases reset : c = .powerOnReset
  · subst reset
    exact ⟨fun _ => ⟨_, rfl, rfl⟩, nofun, fun _ notReset => absurd rfl notReset⟩
  · by_cases leave : ∃ a b, c = .leavePowerOnReset a b
    · obtain ⟨a, b, rfl⟩ := leave
      have answered : exec (.leavePowerOnReset a b) s = .next (if s.inReset then leaveReset a b s else s) := rfl
      exact ⟨fun _ => ⟨_, answered, exec_pending answered⟩, nofun,
        fun _ _ notLeave => absurd rfl (notLeave a b)⟩
    · have notLeave : ∀ a b, c ≠ .leavePowerOnReset a b := fun a b same => leave ⟨a, b, same⟩
      obtain ⟨possible, _, f, event⟩ := exec_isEvent c s reset notLeave
      refine ⟨fun fits => ?_, fun long => ?_, fun held _ _ fits => ?_⟩
      · rw [if_pos fits] at event
        obtain ⟨t, answered⟩ := eventWhen_next possible f s
        exact ⟨t, event.trans answered, exec_pending (event.trans answered)⟩
      · rw [event, if_neg (by simp [long])]
      · rw [event, if_pos fits]
        simp [eventWhen, held]

/-! ### Power-on reset -/

/-- Settles O4: every block of `powerOnValues` is that of the reset state. -/
theorem powerOnResetEnteredAndLeft : Obligations.PowerOnResetEnteredAndLeft := by
  refine ⟨fun s => ?_, fun id0 id1 s held => ?_⟩
  · refine ⟨_, rfl, rfl, rfl, fun w => ?_, fun i => ?_, fun k => ?_, ⟨rfl, rfl, rfl, rfl, rfl, rfl, rfl, rfl, rfl⟩, rfl,
      fun l => ?_, rfl, ⟨rfl, rfl, rfl, rfl, rfl, rfl, rfl, rfl, rfl⟩, rfl, ⟨rfl, rfl, rfl⟩, ⟨rfl, rfl, rfl, rfl⟩, rfl⟩
    · exact ⟨Table.at_fill _ _, Table.at_fill _ _, Table.at_fill _ _, Table.at_fill _ _⟩
    · exact ⟨Table.at_fill _ _, Table.at_fill _ _, Table.at_fill _ _, Table.at_fill _ _, Table.at_fill _ _⟩
    · exact ⟨Table.at_fill _ _, Table.at_fill _ _⟩
    · cases l <;> exact ⟨rfl, rfl, rfl, rfl, rfl, rfl, rfl⟩
  · have left : exec (.leavePowerOnReset id0 id1) s = .next (leaveReset id0 id1 s) := by
      change Host.Outcome.next (if s.inReset then leaveReset id0 id1 s else s) = _
      rw [if_pos held]
    refine ⟨_, left, rfl, ?_, rfl, rfl, rfl, rfl, fun l => ?_, rfl, rfl, rfl, rfl, rfl, fun u entered => ?_⟩
    · cases id0 <;> cases id1 <;> rfl
    · cases l <;> rfl
    · cases entered
      rfl

/-! ### Frames not taken -/

/-- Settles O5: each refused frame fails the condition of its event. -/
theorem ignoredFramesChangeNothing : Obligations.IgnoredFramesChangeNothing := by
  refine ⟨fun s id p untaken short => ⟨?_, ?_⟩, fun s p short discards => ?_⟩
  · have fits : fitsFrame p = true := by simpa [fitsFrame] using short
    change (if fitsFrame p then eventWhen _ _ s else _) = _
    rw [if_pos fits]
    exact eventWhen_idle (by simp [untaken])
  · exact eventWhen_idle (by simp [untaken])
  · have fits : fitsFrame p = true := by simpa [fitsFrame] using short
    change (if fitsFrame p then eventWhen _ _ s else _) = _
    rw [if_pos fits]
    refine eventWhen_idle fun taken => ?_
    simp only [takesRequest, Bool.and_eq_true, Option.isNone_iff_eq_none, bne_iff_ne, beq_iff_eq] at taken
    obtain ⟨⟨⟨online, notAsleep⟩, notSettling⟩, empty⟩ := taken
    rcases discards with asleep | settling | full | offline
    · exact notAsleep asleep
    · exact notSettling settling
    · exact full empty
    · exact offline online

/-! ### Waking -/

/-- The selector leaves a state that has nothing to send. -/
theorem runSelector_of_rested {s : State} (rested : selectorRested s = true) : runSelector s = s := by
  unfold runSelector
  split
  next free => rw [(selectorRested_iff s).mp rested free]
  next => rfl

/-- Settles O25: the change of the filtered level is entry into SETTLING, and the selector finds nothing to send. -/
theorem ignitionHighWakes : Obligations.IgnitionHighWakes := by
  intro s awake asleep low count
  have answered : exec (.ignFilterChange .high) s = .next (takeRawLevel .high s) := eventWhen_effect awake trivial
  have taken : takeRawLevel .high s = runSelector (ignChanged .high
      ((s.setPins { s.pins with ign := .high }).setRide { s.ride with ign := .high, ignCount := 0 })) :=
    if_pos ⟨count, fun same => by cases low.symm.trans same⟩
  have wakes : ignChanged .high
      ((s.setPins { s.pins with ign := .high }).setRide { s.ride with ign := .high, ignCount := 0 }) = enterSettling
      ((s.setPins { s.pins with ign := .high }).setRide { s.ride with ign := .high, ignCount := 0 }) := by
    simp only [ignChanged, State.setRide_ride, asleep]
  have rested := rested_of_giveUp (s := enterSettling
    ((s.setPins { s.pins with ign := .high }).setRide { s.ride with ign := .high, ignCount := 0 })) (t := s.tx) rfl
  rw [wakes, runSelector_of_rested rested, enterSettling_eq] at taken
  refine ⟨_, answered.trans (congrArg _ taken), rfl, rfl, rfl, rfl, rfl, rfl, rfl, fun w => Table.at_fill _ _,
    fun i => Table.at_fill _ _, fun k => Table.at_fill _ _, fun f => Table.at_fill _ _, rfl, rfl, rfl, rfl, rfl, rfl, rfl,
    rfl, rfl, rfl, rfl, rfl, rfl, fun w => Table.at_fill _ _, fun f => Table.at_fill _ _, rfl, rfl, rfl, rfl, ?_, rfl⟩
  exact congrArg Transmitter.attempt (Transmitter.giveUp_eq s.tx)

/-! ### Timers and attempts -/

/-- Settles O28: the expiry replaces its class. -/
theorem blankingTimersEndClasses : Obligations.BlankingTimersEndClasses := by
  intro s awake shallow
  refine ⟨fun c due => ?_, fun due => ?_⟩
  · exact eventWhen_effect awake (by simp [tailDue, due, shallow])
  · exact eventWhen_effect awake (by simp [ignitionDue, due, shallow])

/-- Settles O36: the three ends of an attempt without success. -/
theorem attemptFailureKeepsItem : Obligations.AttemptFailureKeepsItem := by
  intro s a awake attempt
  have fails : exec .attemptFailure s = .next (attemptFails s) :=
    (eventWhen_effect awake trivial).trans (by rw [endOfAttempt, attempt])
  have outbid : exec .lostArbitration s = .next (attemptOutbid s) :=
    (eventWhen_effect awake trivial).trans (by rw [endOfAttempt, attempt])
  refine ⟨fun below => ?_, fun reached => ?_, outbid⟩
  · have count : min (s.tx.errorCount + 8) 256 = s.tx.errorCount + 8 := by omega
    have notAt : s.tx.errorCount + 8 ≠ 256 := by omega
    rw [fails, attemptFails, count]
    exact congrArg _ (if_neg notAt)
  · have count : min (s.tx.errorCount + 8) 256 = 256 := by omega
    rw [fails, attemptFails, count]
    exact congrArg _ (if_pos rfl)

/-- Settles O37: the port's return and the beacon's expiry, with the resend mark of an attempt that carries it. -/
theorem offlineAndBeaconTimersExpire : Obligations.OfflineAndBeaconTimersExpire := by
  refine ⟨fun s awake due => eventWhen_effect awake due, fun s awake due => ?_⟩
  have answered : exec .beaconTimerExpiry s = .next (beaconExpires s) := eventWhen_effect awake due
  have marked := AttemptOnly.eq_with_attempt (Transmitter.markResend_attemptOnly s.tx .beacon)
  have attempts (a : Attempt) (attempt : s.tx.attempt = some a) :
      (beaconExpires s).tx.attempt = some (if a.item = .beacon then { a with resend := true } else a) := by
    refine runSelector_keeps_attempt ?_
    simp only [State.setTx_tx, Transmitter.markResend, attempt]
    split
    · rfl
    · exact attempt
  unfold beaconExpires at attempts answered
  rw [runSelector_eq_with_attempt] at answered
  generalize (runSelector _).tx.attempt = u at attempts answered
  generalize (s.tx.markResend .beacon) = t at marked answered
  generalize t.attempt = v at marked
  subst marked
  exact ⟨_, answered, rfl, rfl, rfl, attempts⟩

/-! ### The reset state -/

/-- Settles O60: the invariants evaluated on the reset state. -/
theorem resetMeetsInvariants : Obligations.ResetMeetsInvariants := by
  refine ⟨rfl, ?_, ?_, ?_, ?_, ?_, ?_, ?_, rfl, fun l => ?_, rfl, rfl⟩
  · decide
  · decide
  · decide
  · decide
  · decide
  · decide
  · decide
  · cases l <;> rfl

end Sys2Proof.Proofs
end

section
/-!
PROOFS. The model's tick (log 2): what it counts, and what it brings due (R24, R69, R77, R79, R81).
-/

namespace Sys2Proof.Proofs

open Sys2Proof.Machine

/-! ### What is due -/

theorem mem_dueIf {c : Bool} {i j : Instr} : j ∈ dueIf c i ↔ c = true ∧ j = i := by
  cases c <;> simp [dueIf]

/-- A due monitor's expiry is named by its entry's mode. -/
theorem monitorDue_expiry_iff {s : State} {i : Instr} {w : Fin 32} :
    monitorDue s w = true ∧ i = monitorExpiryOf s.tables w ↔
      ∃ e, timedEntry s.tables w = some e ∧ s.ride.band ≠ .deep ∧ (s.monitors.at w).running = true ∧
        (s.monitors.at w).remaining = 0 ∧
        (e.mode = .period ∧ i = .periodExpiry w ∨ e.mode ≠ .period ∧ i = .monitorExpiry w) := by
  rw [monitorDue, monitorExpiryOf]
  cases timedEntry s.tables w with
  | none => simp
  | some e =>
    by_cases period : e.mode = .period
    · simp [period, and_comm, and_left_comm]
    · simp [period, and_comm, and_left_comm]

/-- The completion that a store operation brings due. -/
theorem mem_storeDue {s : State} {i : Instr} : i ∈ storeDue s ↔ ∃ w n, s.store.op = some ⟨w, n⟩ ∧ w.bound ≤ n ∧
    i = w.completion := by
  unfold storeDue
  cases s.store.op with
  | none => simp
  | some op =>
    obtain ⟨w, n⟩ := op
    simp only [mem_dueIf, decide_eq_true_eq, Option.some.injEq, StoreOp.mk.injEq]
    exact ⟨fun ⟨due, same⟩ => ⟨w, n, ⟨rfl, rfl⟩, due, same⟩, fun ⟨_, _, ⟨rfl, rfl⟩, due, same⟩ => ⟨due, same⟩⟩

/-- The commands due, one disjunct for each kind. -/
theorem mem_dueCommands {s : State} {i : Instr} : i ∈ dueCommands s ↔
    (s.ride.ignCount = 20 ∧ i = .ignFilterChange s.pins.ign) ∨
    (nextBand s.pins.vsense s.ride.band ≠ s.ride.band ∧ i = .supplyBandChange s.pins.vsense) ∨
    (silenceDue s = true ∧ i = .silenceTimerExpiry) ∨
    (∃ w e, timedEntry s.tables w = some e ∧ s.ride.band ≠ .deep ∧ (s.monitors.at w).running = true ∧
      (s.monitors.at w).remaining = 0 ∧
      (e.mode = .period ∧ i = .periodExpiry w ∨ e.mode ≠ .period ∧ i = .monitorExpiry w)) ∨
    (∃ k, voteDue s k = true ∧ i = .voteExpiry k) ∨ (∃ c, tailDue s c = true ∧ i = .tailTimerExpiry c) ∨
    (ignitionDue s = true ∧ i = .ignitionTimerExpiry) ∨ (proveOutDue s = true ∧ i = .proveOutTimerExpiry) ∨
    (∃ l, stretchDue s l = true ∧ i = .stretchTimerExpiry l) ∨ (∃ l, flashDue s l = true ∧ i = .flashPhaseExpiry l) ∨
    (s.tx.offline = some 0 ∧ i = .offlineTimerExpiry) ∨ (s.tx.beaconTimer = some 0 ∧ i = .beaconTimerExpiry) ∨
    ∃ w n, s.store.op = some ⟨w, n⟩ ∧ w.bound ≤ n ∧ i = w.completion := by
  have classes (c : TailClass) : c ∈ [TailClass.crank, .lowSupply, .absActive, .portDown] := by cases c <;> decide
  have lamps (l : Lamp) : l ∈ [Lamp.engine, .abs] := by cases l <;> decide
  simp only [dueCommands, List.mem_append, List.mem_flatMap, List.mem_finRange, true_and, classes, lamps,
    mem_dueIf, monitorDue_expiry_iff, mem_storeDue, or_assoc, beq_iff_eq, bne_iff_ne, ne_eq]

/-- A store operation's completion is that of its work. -/
theorem completion_eq_iff (w : StoreWork) :
    (Instr.loadCompletion = w.completion ↔ w = .load) ∧ (Instr.memoryWriteCompletion = w.completion ↔ w = .memoryWrite) ∧
      (Instr.tablesWriteCompletion = w.completion ↔ w = .tablesWrite) ∧
      (Instr.reloadCompletion = w.completion ↔ w = .reload) := by
  cases w <;> simp [StoreWork.completion]

/-- No other command is a store operation's completion. -/
theorem ne_completion {i : Instr} (load : i ≠ .loadCompletion) (memory : i ≠ .memoryWriteCompletion)
    (tables : i ≠ .tablesWriteCompletion) (reload : i ≠ .reloadCompletion) (w : StoreWork) : i ≠ w.completion := by
  cases w
  · exact load
  · exact memory
  · exact tables
  · exact reload

/-- Which expiries of the segments, the supply and the store are due. -/
theorem due_segments (s : State) :
    (∀ l, .ignFilterChange l ∈ dueCommands s ↔ s.ride.ignCount = 20 ∧ l = s.pins.ign) ∧
    (∀ v, .supplyBandChange v ∈ dueCommands s ↔ v = s.pins.vsense ∧ nextBand v s.ride.band ≠ s.ride.band) ∧
    (.silenceTimerExpiry ∈ dueCommands s ↔
      s.ride.band ≠ .deep ∧ s.ride.state.isRunning = true ∧ s.chassis.silence = some 0) ∧
    (∀ w, .monitorExpiry w ∈ dueCommands s ↔ s.ride.band ≠ .deep ∧ ∃ e, timedEntry s.tables w = some e ∧
      e.mode ≠ .period ∧ (s.monitors.at w).running = true ∧ (s.monitors.at w).remaining = 0) ∧
    (∀ w, .periodExpiry w ∈ dueCommands s ↔ s.ride.band ≠ .deep ∧ ∃ e, timedEntry s.tables w = some e ∧
      e.mode = .period ∧ (s.monitors.at w).running = true ∧ (s.monitors.at w).remaining = 0) ∧
    (∀ k, .voteExpiry k ∈ dueCommands s ↔
      s.ride.band ≠ .deep ∧ s.tables.votes.at k ≠ none ∧ s.voteTimers.at k = some 0) := by
  refine ⟨fun l => ?_, fun v => ?_, ?_, fun w => ?_, fun w => ?_, fun k => ?_⟩
  · simp [mem_dueCommands, ne_completion]
  · simp [mem_dueCommands, ne_completion]
    grind
  · simp [mem_dueCommands, ne_completion, silenceDue]
    grind
  · simp [mem_dueCommands, ne_completion]
    grind
  · simp [mem_dueCommands, ne_completion]
    grind
  · simp [mem_dueCommands, ne_completion, voteDue, Option.isSome_iff_ne_none]
    grind

theorem phaseDone_iff (l : LampState) : l.phaseDone = true ↔ ∃ on, l.phase = some ⟨on, 0⟩ := by
  unfold LampState.phaseDone
  cases l.phase with
  | none => simp
  | some phase =>
    obtain ⟨on, remaining⟩ := phase
    simp

/-- Which blanking and lamp timers are due. -/
theorem due_classesAndLamps (s : State) :
    (∀ c, .tailTimerExpiry c ∈ dueCommands s ↔ s.ride.band ≠ .deep ∧ (s.ride.classes.get c).timer = some 0) ∧
    (.ignitionTimerExpiry ∈ dueCommands s ↔ s.ride.band ≠ .deep ∧ s.ride.classes.ignition.timer = some 0) ∧
    (.proveOutTimerExpiry ∈ dueCommands s ↔ s.ride.band ≠ .deep ∧ s.lamps.proveTimer = some 0) ∧
    (∀ l, .stretchTimerExpiry l ∈ dueCommands s ↔ s.ride.band ≠ .deep ∧ (s.lamps.get l).stretch = some 0) ∧
    (∀ l, .flashPhaseExpiry l ∈ dueCommands s ↔
      s.ride.band ≠ .deep ∧ ∃ on, (s.lamps.get l).phase = some ⟨on, 0⟩) := by
  refine ⟨fun c => ?_, ?_, ?_, fun l => ?_, fun l => ?_⟩
  · simp [mem_dueCommands, ne_completion, tailDue, and_comm]
  · simp [mem_dueCommands, ne_completion, ignitionDue, and_comm]
  · simp [mem_dueCommands, ne_completion, proveOutDue, and_comm]
  · simp [mem_dueCommands, ne_completion, stretchDue, and_comm]
  · simp [mem_dueCommands, ne_completion, flashDue, phaseDone_iff, and_comm]

/-- Which expiries of the transmitter and which completions of the store are due. -/
theorem due_txAndStore (s : State) :
    (.offlineTimerExpiry ∈ dueCommands s ↔ s.tx.offline = some 0) ∧
    (.beaconTimerExpiry ∈ dueCommands s ↔ s.tx.beaconTimer = some 0) ∧
    (.loadCompletion ∈ dueCommands s ↔ ∃ n, s.store.op = some ⟨.load, n⟩ ∧ 60 ≤ n) ∧
    (.memoryWriteCompletion ∈ dueCommands s ↔ ∃ n, s.store.op = some ⟨.memoryWrite, n⟩ ∧ 120 ≤ n) ∧
    (.tablesWriteCompletion ∈ dueCommands s ↔ ∃ n, s.store.op = some ⟨.tablesWrite, n⟩ ∧ 400 ≤ n) ∧
    (.reloadCompletion ∈ dueCommands s ↔ ∃ n, s.store.op = some ⟨.reload, n⟩ ∧ 60 ≤ n) := by
  refine ⟨?_, ?_, ?_, ?_, ?_, ?_⟩
  · simp [mem_dueCommands, ne_completion]
  · simp [mem_dueCommands, ne_completion]
  · simp [mem_dueCommands, completion_eq_iff, StoreWork.bound]
  · simp [mem_dueCommands, completion_eq_iff, StoreWork.bound]
  · simp [mem_dueCommands, completion_eq_iff, StoreWork.bound]
  · simp [mem_dueCommands, completion_eq_iff, StoreWork.bound]

/-! ### What is counted -/

theorem countDown_eq_map (timer : Option Nat) : countDown timer = timer.map (· - 1) := by cases timer <;> rfl

/-- A tick in DEEP (R81). -/
theorem tickTimers_of_deep {s : State} (deep : s.ride.band = .deep) : tickTimers s = { s with
    tx := { s.tx with offline := countDown s.tx.offline, beaconTimer := countDown s.tx.beaconTimer }
    store := { s.store with op := s.store.op.map StoreOp.tick }
    ride := { s.ride with ignCount := tickIgnCount s.pins s.ride, clockTicks := tickClock s.ride } } := by
  simp only [tickTimers, tickHeldTimers, deep, if_true, tickFreeTimers, State.setTx, State.setStore, State.setRide]

/-- A tick in another band. -/
theorem tickTimers_of_not_deep {s : State} (shallow : s.ride.band ≠ .deep) : tickTimers s = { s with
    chassis := { s.chassis with silence := countDown s.chassis.silence }
    monitors := tickMonitors s
    voteTimers := Table.build fun k => countDown (s.voteTimers.at k)
    lamps := s.lamps.tick
    tx := { s.tx with offline := countDown s.tx.offline, beaconTimer := countDown s.tx.beaconTimer }
    store := { s.store with op := s.store.op.map StoreOp.tick }
    ride := { s.ride with
      ignCount := tickIgnCount s.pins s.ride, clockTicks := tickClock s.ride, classes := s.ride.classes.tick
      runTime := tickRunTime s } } := by
  simp only [tickTimers, tickHeldTimers, shallow, if_false, tickFreeTimers, State.setTx, State.setStore, State.setRide,
    State.setChassis, State.setMonitors, State.setVoteTimers, State.setLamps, tickClock, tickIgnCount]

/-- The commands due are those of the state, whatever waits. -/
theorem dueCommands_setPending (s : State) (waiting : List Instr) :
    dueCommands (s.setPending waiting) = dueCommands s := rfl

/-- What a tick counts in every band. -/
theorem tickTimers_everyBand (s : State) :
    let t := tickTimers s
    t.tx = { s.tx with offline := countDown s.tx.offline, beaconTimer := countDown s.tx.beaconTimer } ∧
    t.store = { s.store with op := s.store.op.map StoreOp.tick } ∧
    t.ride = { s.ride with
      ignCount := tickIgnCount s.pins s.ride, clockTicks := tickClock s.ride, classes := t.ride.classes
      runTime := t.ride.runTime } ∧
    (t.tables = s.tables ∧ t.memory = s.memory ∧ t.faultRt = s.faultRt ∧ t.watchRt = s.watchRt ∧
      t.signalRt = s.signalRt ∧ t.mgmt = s.mgmt ∧ t.pins = s.pins) := by
  by_cases deep : s.ride.band = .deep
  · rw [tickTimers_of_deep deep]
    exact ⟨rfl, rfl, rfl, rfl, rfl, rfl, rfl, rfl, rfl, rfl⟩
  · rw [tickTimers_of_not_deep deep]
    exact ⟨rfl, rfl, rfl, rfl, rfl, rfl, rfl, rfl, rfl, rfl⟩

theorem tickMonitors_at (s : State) (w : Fin 32) : (tickMonitors s).at w =
    match timedEntry s.tables w with
    | none => s.monitors.at w
    | some e => (s.monitors.at w).tick e.mode := Table.at_build _ _

theorem tickMonitors_of_running {s : State} {w : Fin 32} {e : WatchEntry} (timed : timedEntry s.tables w = some e)
    (running : (s.monitors.at w).running = true) :
    ((tickMonitors s).at w).remaining = (s.monitors.at w).remaining - 1 ∧
    ((tickMonitors s).at w).arrivals = (s.monitors.at w).arrivals ∧
    (e.mode = .window →
      ((tickMonitors s).at w).previous = (s.monitors.at w).previous.map fun n => min (n + 1) 65535) := by
  rw [tickMonitors_at, timed]
  simp only [Monitor.tick, running, if_true, true_and]
  exact fun window => if_pos window

theorem tickMonitors_of_idle {s : State} {w : Fin 32} (idle : (s.monitors.at w).running = false) :
    (tickMonitors s).at w = s.monitors.at w := by
  rw [tickMonitors_at]
  cases timedEntry s.tables w with
  | none => rfl
  | some e => exact if_neg (by simp [idle])

theorem classes_tick_get (c : Classes) (cls : TailClass) :
    (c.tick.get cls).timer = (c.get cls).timer.map (· - 1) ∧ (c.tick.get cls).active = (c.get cls).active := by
  cases cls <;> exact ⟨countDown_eq_map _, rfl⟩

theorem lamps_tick_get (d : LampDriver) (l : Lamp) :
    (d.tick.get l).stretch = (d.get l).stretch.map (· - 1) ∧
    (d.tick.get l).phase = (d.get l).phase.map (fun ph => ⟨ph.on, ph.remaining - 1⟩) ∧
    (d.tick.get l).displayed = (d.get l).displayed := by
  cases l <;> exact ⟨countDown_eq_map _, rfl, rfl⟩

/-- What a tick leaves in DEEP (R81). -/
theorem tickTimers_held {s : State} (deep : s.ride.band = .deep) :
    let t := tickTimers s
    t.chassis = s.chassis ∧ t.monitors = s.monitors ∧ t.voteTimers = s.voteTimers ∧ t.lamps = s.lamps ∧
      t.ride.classes = s.ride.classes ∧ t.ride.runTime = s.ride.runTime := by
  rw [tickTimers_of_deep deep]
  exact ⟨rfl, rfl, rfl, rfl, rfl, rfl⟩

/-- What a tick counts in the other bands. -/
theorem tickTimers_counted {s : State} (shallow : s.ride.band ≠ .deep) :
    let t := tickTimers s
    t.chassis = { s.chassis with silence := countDown s.chassis.silence } ∧ t.monitors = tickMonitors s ∧
      (∀ k, t.voteTimers.at k = countDown (s.voteTimers.at k)) ∧ t.lamps = s.lamps.tick ∧
      t.ride.classes = s.ride.classes.tick ∧ t.ride.runTime = tickRunTime s := by
  rw [tickTimers_of_not_deep shallow]
  exact ⟨rfl, rfl, fun k => Table.at_build _ _, rfl, rfl, rfl⟩

/-- Settles O3: the tick's fields are those of `tickTimers`, and the queue is what that state brings due. -/
theorem tickCountsTimers : Obligations.TickCountsTimers := by
  intro s empty awake
  have stepped : step s = .next ((tickTimers s).setPending (dueCommands (tickTimers s))) := by
    have waiting : (tickTimers s).pending = [] := by
      by_cases deep : s.ride.band = .deep
      · rw [tickTimers_of_deep deep]; exact empty
      · rw [tickTimers_of_not_deep deep]; exact empty
    simp only [step, empty, tick, awake, Bool.false_eq_true, if_false, waiting, List.nil_append]
  obtain ⟨tx, store, ride, tables, memory, faultRt, watchRt, signalRt, mgmt, pins⟩ := tickTimers_everyBand s
  have deepBand := tickTimers_held (s := s)
  have otherBand := tickTimers_counted (s := s)
  dsimp only at deepBand otherBand
  generalize tickTimers s = t at *
  have segments := due_segments t
  have lamps := due_classesAndLamps t
  have completions := due_txAndStore t
  have band : t.ride.band = s.ride.band := by rw [ride]
  have state : t.ride.state = s.ride.state := by rw [ride]
  rw [band, state, tables, pins] at segments
  rw [band] at lamps
  obtain ⟨ign, supply, silence, monitor, period, vote⟩ := segments
  obtain ⟨tail, ignition, proveOut, stretch, flash⟩ := lamps
  refine ⟨_, stepped, ?_⟩
  simp only [dueCommands_setPending, State.setPending_pending, State.setPending_tx, State.setPending_ride,
    State.setPending_tables, State.setPending_memory, State.setPending_faultRt, State.setPending_watchRt,
    State.setPending_signalRt, State.setPending_mgmt, State.setPending_pins, State.setPending_store,
    State.setPending_chassis, State.setPending_monitors, State.setPending_voteTimers, State.setPending_lamps]
  refine ⟨?_, ?_, ?_, ⟨state, band, ?_, ?_, ?_⟩, ⟨tables, memory, faultRt, watchRt, signalRt, mgmt, pins, ?_, ?_⟩,
    deepBand, fun shallow => ?_, ?_, trivial, ign, supply, silence, monitor, period, vote, tail, ignition, proveOut, stretch,
    flash, completions⟩
  · rw [tx, countDown_eq_map, countDown_eq_map]
  · rw [ride]
    simp [tickClock]
  · rw [ride]
    rfl
  · rw [ride]
  · rw [ride]
  · rw [ride]
  · rw [store]
  · rw [store]
  · obtain ⟨chassis, monitors, votes, lamps, classes, runTime⟩ := otherBand shallow
    rw [chassis, monitors, lamps, classes, runTime, countDown_eq_map]
    exact ⟨rfl, fun w e => tickMonitors_of_running, fun w => tickMonitors_of_idle,
      fun k => (votes k).trans (countDown_eq_map _), classes_tick_get _, countDown_eq_map _, countDown_eq_map _,
      lamps_tick_get _, rfl⟩
  · rw [store]
    rfl

end Sys2Proof.Proofs
end

section
/-!
PROOFS. The supply band, its class and the lamps that leave DEEP (R80, R87, R144, R147); the lamp timers (R139 to R147).
-/

namespace Sys2Proof.Proofs

open Sys2Proof.Machine

/-! ### A VSENSE sample -/

/-- The LOW_SUPPLY class after a change of band (R84, R87). -/
def supplyClass (old new : Band) (s : State) : BlankingClass :=
  if followsConditions s = true then
    if old = .normal ∧ new ≠ .normal then ⟨true, none⟩
    else if old ≠ .normal ∧ new = .normal then
      if s.tables.settings.supplyTail = 0 then ⟨false, none⟩ else ⟨true, some s.tables.settings.supplyTail⟩
    else s.ride.classes.lowSupply
  else s.ride.classes.lowSupply

theorem supplyClass_of_same {old new : Band} (s : State) (same : old = .normal ↔ new = .normal) :
    supplyClass old new s = s.ride.classes.lowSupply := by
  unfold supplyClass
  split_ifs with _ begins ends
  · exact absurd (same.mp begins.1) begins.2
  · exact absurd (same.mpr ends.2) ends.1
  · exact absurd (same.mpr ends.2) ends.1
  · rfl
  · rfl

theorem classFollowsBand_supplyClass (old new : Band) (s : State) : classFollowsBand old new s =
    { s with ride := { s.ride with classes := { s.ride.classes with lowSupply := supplyClass old new s } } } := by
  unfold classFollowsBand supplyClass beginClass endClass
  by_cases follows : followsConditions s = true
  · simp only [follows, if_true]
    split
    · rfl
    · split <;> rfl
  · simp only [follows, if_false, Bool.false_eq_true]
    split
    · rfl
    · split <;> rfl

/-- The lamps after a change of band: brought up to date where DEEP ends (R147). -/
def supplyLamps (old new : Band) (s : State) : LampDriver :=
  if old = .deep ∧ new ≠ .deep then
    let u := s.setRide { s.ride with band := new }
    { s.lamps with engine := refreshLamp u s.lamps.engine, abs := refreshLamp u s.lamps.abs }
  else s.lamps

/-- All that a VSENSE sample does. -/
theorem takeSupplySample_eq (v : Nat) (s : State) : takeSupplySample v s = { s with
    pins := { s.pins with vsense := v }
    lamps := supplyLamps s.ride.band (nextBand v s.ride.band) s
    ride := { s.ride with
      band := nextBand v s.ride.band
      classes := { s.ride.classes with lowSupply := supplyClass s.ride.band (nextBand v s.ride.band) s } } } := by
  by_cases same : nextBand v s.ride.band = s.ride.band
  · have sampled : takeSupplySample v s = s.setPins { s.pins with vsense := v } := if_pos same
    rw [sampled, same, supplyClass_of_same s Iff.rfl, supplyLamps, if_neg fun leaves => leaves.2 leaves.1]
    rfl
  · have sampled : takeSupplySample v s = bandChanged (nextBand v s.ride.band)
        (s.setPins { s.pins with vsense := v }) := if_neg same
    have deep : (s.ride.band = .deep ∧ nextBand v s.ride.band ≠ .deep) ↔ s.ride.band = .deep :=
      ⟨And.left, fun deep => ⟨deep, fun still => same (still.trans deep.symm)⟩⟩
    rw [sampled]
    unfold bandChanged
    dsimp only [State.setPins_ride]
    rw [classFollowsBand_supplyClass, supplyLamps]
    simp only [deep]
    split <;> rfl

/-- A lamp brought up to date outside DEEP (R144, R146). -/
theorem refreshLamp_of_not_deep {s : State} (l : LampState) (shallow : s.ride.band ≠ .deep) :
    let shown : Pattern :=
      if s.ride.state = .configure then .steady
      else if s.ride.state.isRunning = false then .off
      else if s.mgmt.unconfigured = true ∨ l.proveOut = true then .steady else l.stretched.getD l.request
    refreshLamp s l = { l with
      displayed := shown
      phase := if l.displayed = shown then l.phase else if shown = .flash then some ⟨true, 250⟩ else none } :=
  (refreshLamp_spec s l).2 fun held => shallow held.1

theorem supplyLamps_get {old new : Band} (s : State) (leaves : old = .deep ∧ new ≠ .deep) (l : Lamp) :
    (supplyLamps old new s).get l = refreshLamp (s.setRide { s.ride with band := new }) (s.lamps.get l) := by
  rw [supplyLamps, if_pos leaves]
  cases l <;> rfl

/-- Settles O27: the sample's band, class and lamps, each by its rule. -/
theorem supplyBandFollowsSample : Obligations.SupplyBandFollowsSample := by
  intro v s awake
  have answered : exec (.supplyBandChange v) s = .next (takeSupplySample v s) := eventWhen_effect awake trivial
  refine ⟨_, answered.trans (congrArg _ (takeSupplySample_eq v s)), fun band => ?_, fun band => ?_, fun band => ?_,
    fun follows band moved => ?_, fun follows band moved => ?_, fun same => ?_, fun notRunning notConfigure => ?_,
    fun stays => ?_, fun deep leaves => ⟨?_, fun l => ?_⟩, rfl⟩
  · exact congrArg (nextBand v) band
  · exact congrArg (nextBand v) band
  · exact congrArg (nextBand v) band
  · have on : followsConditions s = true := by simpa [followsConditions] using follows
    change supplyClass _ _ s = _
    rw [supplyClass, if_pos on, if_pos ⟨band, moved⟩]
  · have on : followsConditions s = true := by simpa [followsConditions] using follows
    change supplyClass _ _ s = _
    rw [supplyClass, if_pos on, if_neg fun begins => band begins.1, if_pos ⟨band, moved⟩]
  · change Classes.mk _ _ (supplyClass _ _ s) _ _ = _
    rw [supplyClass_of_same s same]
  · have off : ¬followsConditions s = true := by simp [followsConditions, notRunning, notConfigure]
    change Classes.mk _ _ (supplyClass _ _ s) _ _ = _
    rw [supplyClass, if_neg off]
  · exact if_neg fun leaves => stays.elim (· leaves.1) leaves.2
  · change (supplyLamps _ _ s).proveTimer = _
    rw [supplyLamps, if_pos ⟨deep, leaves⟩]
  · exact (supplyLamps_get s ⟨deep, leaves⟩ l).trans (refreshLamp_of_not_deep _ leaves)

/-! ### The lamp timers -/

theorem refreshLamp_fields {s : State} (l : LampState) (shallow : s.ride.band ≠ .deep) :
    (refreshLamp s l).request = l.request ∧ (refreshLamp s l).stretch = l.stretch ∧
      (refreshLamp s l).stretched = l.stretched ∧ (refreshLamp s l).proveOut = l.proveOut := by
  rw [refreshLamp_of_not_deep l shallow]
  exact ⟨rfl, rfl, rfl, rfl⟩

/-- A lamp that nothing forces follows its request (R144). -/
theorem refreshLamp_displayed {s : State} {l : LampState} (shallow : s.ride.band ≠ .deep)
    (running : s.ride.state.isRunning = true) (configured : s.mgmt.unconfigured = false) (free : l.proveOut = false) :
    (refreshLamp s l).displayed = l.stretched.getD l.request := by
  have notConfigure : s.ride.state ≠ .configure := fun configure => by rw [configure] at running; cases running
  rw [refreshLamp_of_not_deep l shallow]
  simp [notConfigure, running, configured, free]

theorem get_put (d : LampDriver) (l k : Lamp) (x : LampState) :
    (d.put l x).get k = if k = l then x else d.get k := by
  cases l <;> cases k <;> rfl

/-- The role ABS_READY keeps the ABS prove-out exactly where a signal holds it with the value 0 (R143). -/
theorem absProveOutEnds_eq_false_iff (s : State) : absProveOutEnds s = false ↔
    (∃ i e, s.tables.signals.at i = some e ∧ e.role = .absReady) ∧ roleValue s .absReady = 0 := by
  have holder : (roleHolder s .absReady).isNone = false ↔
      ∃ i e, s.tables.signals.at i = some e ∧ e.role = .absReady := by
    cases found : roleHolder s .absReady with
    | none =>
      refine iff_of_false nofun fun ⟨i, e, held, role⟩ => roleHolder_none s _ found i e held role
    | some i =>
      obtain ⟨e, held, role⟩ := roleHolder_holds s _ i found
      exact iff_of_true rfl ⟨i, e, held, role⟩
  simp [absProveOutEnds, holder]

/-- Settles O29: the three expiries, and the Lamp Driver told by `updateLamp_spec`. -/
theorem lampTimersExpireInTurn : Obligations.LampTimersExpireInTurn := by
  refine ⟨fun s awake shallow due => ?proveOut, fun s l awake shallow => ⟨fun due => ?stretch, fun ph phase done => ?flash⟩,
    fun s => ?told⟩
  case proveOut =>
    have answered : exec .proveOutTimerExpiry s = .next (expireProveOut s) :=
      eventWhen_effect awake (by simp [proveOutDue, due, shallow])
    have ends := absProveOutEnds_eq_false_iff s
    obtain ⟨engineRequest, -, -, engineProveOut⟩ := refreshLamp_fields (s := s)
      { s.lamps.engine with proveOut := false } shallow
    obtain ⟨absRequest, -, -, absProveOut⟩ := refreshLamp_fields (s := s)
      { s.lamps.abs with proveOut := s.lamps.abs.proveOut && !absProveOutEnds s } shallow
    have stops (stop : absProveOutEnds s ≠ false) : (s.lamps.abs.proveOut && !absProveOutEnds s) = false := by
      simp [Bool.eq_true_of_not_eq_false stop]
    refine ⟨_, answered, rfl, rfl, engineProveOut, fun ready => absProveOut.trans (stops fun kept => ready (ends.mp kept).2),
      fun vacant => absProveOut.trans (stops fun kept => ?_), fun zero held => absProveOut.trans ?_,
      fun running configured => refreshLamp_displayed (s := s) shallow running configured rfl, engineRequest, absRequest⟩
    · obtain ⟨i, e, held, role⟩ := (ends.mp kept).1
      exact vacant i e held role
    · simp [ends.mpr ⟨held, zero⟩]
  case stretch =>
    have answered : exec (.stretchTimerExpiry l) s = .next (expireStretch l s) :=
      eventWhen_effect awake (by simp [stretchDue, due, shallow])
    obtain ⟨request, stretch, stretched, -⟩ := refreshLamp_fields (s := s)
      { s.lamps.get l with stretch := none, stretched := none } shallow
    have lamps (k : Lamp) : (expireStretch l s).lamps.get k = if k = l then
        refreshLamp s { s.lamps.get l with stretch := none, stretched := none } else s.lamps.get k := get_put _ l k _
    refine ⟨_, answered, rfl, ?_⟩
    rw [lamps l, if_pos rfl]
    exact ⟨stretch, stretched, request, fun running configured free =>
      refreshLamp_displayed shallow running configured free, fun k other => (lamps k).trans (if_neg other)⟩
  case flash =>
    have answered : exec (.flashPhaseExpiry l) s = .next (expireFlash l s) :=
      eventWhen_effect awake (by simp [flashDue, LampState.phaseDone, phase, done, shallow])
    have lamps (k : Lamp) : (expireFlash l s).lamps.get k = if k = l then
        (s.lamps.get l).nextHalfCycle else s.lamps.get k := get_put _ l k _
    refine ⟨_, answered, rfl, ?_, fun k other => (lamps k).trans (if_neg other)⟩
    rw [lamps l, if_pos rfl, LampState.nextHalfCycle, phase]
    rfl
  case told =>
    intro u confirmed failing anyFault engine
    have engineRequest : u.lamps.engine.request = Machine.engineRequest s := updateLamp_request s _ _
    have absRequest : u.lamps.abs.request = Machine.absRequest s := updateLamp_request s _ _
    have flash := engineRequest_flash_iff s
    have lit := engineRequest_lit_iff s
    obtain ⟨noFlash, absLit⟩ := absRequest_lit_iff s
    simp only [and_comm (a := _ = RecordStatus.confirmed)] at flash lit absLit
    rw [engineRequest, absRequest]
    refine ⟨rfl, rfl, flash, lit, noFlash, absLit, fun l => ?_⟩
    cases l with
    | engine => exact updateLamp_spec s _ s.lamps.engine
    | abs => exact updateLamp_spec s _ s.lamps.abs

end Sys2Proof.Proofs
end

section
/-!
PROOFS. The end of a region write, and what the MEMORY write leads to (R76, R184, R185, R189).
-/

namespace Sys2Proof.Proofs

open Sys2Proof.Machine

section

variable {size : Nat} {m : List Host.Cell}

/-- A byte of a region after stage 3 of a write (R185). -/
theorem read_regionEndWrite (wf : Mem.wf storeFill (size + 3) m = true) (k : Nat) :
    Mem.read storeFill (regionEndWrite size m) k =
      if k < size then Mem.read storeFill m k
      else if k < size + 2 then (le16 (checkValue (regionContent size m))).getD (k - size) storeFill
      else if k = size + 2 then 1 else Mem.read storeFill m k := by
  have checked := Mem.writeBytes_wf (a := size) (le16 (checkValue (regionContent size m))) wf (by simp)
  rw [regionEndWrite, Mem.read_write _ _ _ checked, read_writeBytes wf (by simp), le16_length]
  by_cases state : k = size + 2
  · rw [if_pos state.symm, if_neg (by omega), if_neg (by omega), if_pos state]
  · rw [if_neg (Ne.symm state), if_neg state]
    by_cases inside : k < size
    · rw [if_neg (by omega), if_pos inside]
    · rw [if_neg inside]
      by_cases check : k < size + 2
      · rw [if_pos (by omega), if_pos check]
      · rw [if_neg (by omega), if_neg check]

theorem regionContent_ended (wf : Mem.wf storeFill (size + 3) m = true) :
    regionContent size (regionEndWrite size m) = regionContent size m := by
  refine regionContent_of_read (by simp [regionContent]) fun k inside => ?_
  rw [read_regionEndWrite wf, if_pos inside]
  simp [regionContent, Mem.bytes, List.getD_eq_getElem?_getD, inside]

theorem byteSum_replicate (n : Nat) (b : Byte) : byteSum (List.replicate n b) = n * b.toNat := by
  induction n with
  | zero => simp [byteSum]
  | succ n ih =>
    rw [byteSum] at ih
    rw [byteSum, List.replicate_succ, List.foldr_cons, ih, Nat.succ_mul, Nat.add_comm]

/-- A region whose write has ended is valid: an erased content has a check value that is not erased (R184). -/
theorem regionValid_ended (wf : Mem.wf storeFill (size + 3) m = true) (check : size * 255 % 65536 ≠ 0) :
    regionValid size (regionEndWrite size m) = true := by
  have small : checkValue (regionContent size m) ≤ 65535 := by unfold checkValue; omega
  have value := u16_of_bytes small
  have someByte : (regionContent (size + 2) (regionEndWrite size m)).all (· == 0xFF) = false := by
    by_contra erased
    simp only [Bool.not_eq_false, regionContent, Mem.bytes, List.all_eq_true, List.mem_map, List.mem_range, Nat.zero_add,
      forall_exists_index, and_imp, forall_apply_eq_imp_iff₂, beq_iff_eq] at erased
    have content : regionContent size m = List.replicate size 0xFF := by
      refine regionContent_of_read (by simp) fun k inside => ?_
      have byte := erased k (by omega)
      rw [read_regionEndWrite wf, if_pos inside] at byte
      simp [byte, inside]
    have low := erased size (by omega)
    have high := erased (size + 1) (by omega)
    rw [read_regionEndWrite wf, if_neg (by omega), if_pos (by omega)] at low high
    simp only [le16, Nat.sub_self, Nat.add_sub_cancel_left, List.getD_cons_zero, List.getD_cons_succ] at low high
    rw [low, high, content, checkValue, byteSum_replicate] at value
    change 65535 = 65535 - size * 255 % 65536 at value
    omega
  rw [regionValid, regionContent_ended wf, someByte, read_regionEndWrite wf, read_regionEndWrite wf,
    read_regionEndWrite wf]
  simp [le16, value]

end

/-- The TABLES and the MEMORY region keep their canonical form. -/
theorem regions_wf_of_areasCanonical {s : State} (canonical : areasCanonical s = true) :
    Mem.wf storeFill (tablesSize + 3) s.store.tables = true ∧ Mem.wf storeFill (memorySize + 3) s.store.memory = true := by
  simp only [areasCanonical, Bool.and_eq_true] at canonical
  exact ⟨canonical.1.2, canonical.2⟩

theorem mayComplete_of_op {s : State} {w : StoreWork} {n : Nat} (op : s.store.op = some ⟨w, n⟩) (lasted : 1 ≤ n) :
    opMayComplete s w = true := by
  simp [opMayComplete, op, lasted]

/-- Settles O31: stage 3 of the write, then step 5 of CLOSING by the filtered level. -/
theorem memoryWriteCompletes : Obligations.MemoryWriteCompletes := by
  intro s n awake op lasted canonical
  have wf := (regions_wf_of_areasCanonical canonical).2
  have answered : exec .memoryWriteCompletion s = .next (Machine.memoryWriteCompletes s) :=
    eventWhen_effect awake (mayComplete_of_op op lasted)
  have valid := regionValid_ended (size := memorySize) wf (by decide)
  have content := regionContent_ended (size := memorySize) wf
  rw [Machine.memoryWriteCompletes, finishMemoryWrite_eq, finishClosing] at answered
  cases level : s.ride.ign with
  | low =>
    simp only [level, enterAsleep_eq] at answered
    exact ⟨_, answered, valid, content, rfl, rfl, rfl, rfl, fun _ => ⟨rfl, rfl, rfl, rfl, rfl, rfl⟩, nofun⟩
  | high =>
    simp only [level, enterSettling_eq] at answered
    exact ⟨_, answered, valid, content, rfl, rfl, rfl, rfl, nofun, fun _ => ⟨rfl, rfl, rfl, rfl, rfl⟩⟩

end Sys2Proof.Proofs
end

section
/-!
PROOFS. The closure of a ride at IGN low (R75 to R78, R125 to R129).
-/

namespace Sys2Proof.Proofs

open Sys2Proof.Machine

/-! ### Records at the closure of a qualified ride -/

theorem filterMap_eq_self {α : Type} {f : α → Option α} {xs : List α} (kept : ∀ x ∈ xs, f x = some x) :
    xs.filterMap f = xs := by
  rw [List.filterMap_congr kept, List.filterMap_some]

/-- What the processing of the records leaves of the memory and the lamps (R126). -/
structure RecordsClosed (s t : State) : Prop where
  frame : SampleFrame s t
  faultRt : t.faultRt = s.faultRt
  memory : t.memory.records = s.memory.records.filterMap (closeRecord s)
  dirty : s.memory.dirty = true → t.memory.dirty = true
  lamps : t.lamps = s.lamps ∨ ∃ u : State, u.ride = s.ride ∧ u.lamps = s.lamps ∧ t.lamps = (updateLamps u).lamps

theorem closeRecords_closed (s : State) : RecordsClosed s (closeRecords s) := by
  have frame := closeRecords_frame s
  by_cases none : (s.memory.records.filter fun r => closeRecord s r != some r).isEmpty = true
  · have same : closeRecords s = s := if_pos none
    have kept : ∀ r ∈ s.memory.records, closeRecord s r = some r := by
      simpa only [List.isEmpty_iff, List.filter_eq_nil_iff, bne_iff_ne, ne_eq, not_not] using none
    rw [same] at frame ⊢
    exact ⟨frame, rfl, (filterMap_eq_self kept).symm, id, .inl rfl⟩
  · have told : closeRecords s = updateLamps
        (setNotices ((s.memory.records.filter fun r => closeRecord s r != some r).map (·.fault))
          (changeRecords (s.memory.records.filterMap (closeRecord s)) s)) := if_neg none
    have notices := setNotices_eq ((s.memory.records.filter fun r => closeRecord s r != some r).map (·.fault))
      (changeRecords (s.memory.records.filterMap (closeRecord s)) s)
    generalize setNotices _ _ = u at told notices
    have ride : u.ride = s.ride := by rw [notices]; rfl
    have lamps : u.lamps = s.lamps := by rw [notices]; rfl
    have faultRt : u.faultRt = s.faultRt := by rw [notices]; rfl
    have memory : u.memory = { s.memory with
        records := s.memory.records.filterMap (closeRecord s), dirty := true } := by rw [notices]; rfl
    rw [told] at frame ⊢
    exact ⟨frame, faultRt, congrArg FaultMemory.records memory, fun _ => congrArg FaultMemory.dirty memory,
      .inr ⟨u, ride, lamps, rfl⟩⟩

/-- In CLOSING a lamp that is off stays off, whatever its request becomes (R144). -/
theorem updateLamps_off {u : State} (closing : u.ride.state = .closing) (l : Lamp)
    (off : (u.lamps.get l).displayed = .off) : ((updateLamps u).lamps.get l).displayed = .off := by
  have lamp (p : Pattern) (x : LampState) (dark : x.displayed = .off) : (updateLamp u p x).displayed = .off := by
    obtain ⟨-, same, moved⟩ := updateLamp_spec u p x
    by_cases request : (updateLamp u p x).request = x.request
    · rw [same request]; exact dark
    · obtain ⟨-, -, -, -, shown⟩ := moved request
      rw [closing] at shown
      simpa [RideState.isRunning] using (shown (by simp [RideState.isRunning])).1
  cases l with
  | engine => exact lamp _ _ off
  | abs => exact lamp _ _ off

/-! ### The closure -/

/-- What every closure with IGN low leaves, whether or not a write begins (R75, R76). -/
structure RideEnded (s t : State) : Prop where
  reset : t.inReset = s.inReset
  ign : t.ride.ign = .low
  lamps : ∀ l, (t.lamps.get l).displayed = .off
  classes : t.ride.classes = Classes.inactive
  silence : t.chassis.silence = none
  queue : t.tx.queue = []
  slots : ∀ w, t.tx.slots.at w = none
  beacon : t.tx.beaconDue = false ∧ t.tx.beaconTimer = none
  tables : t.tables = s.tables
  faultRt : t.faultRt = s.faultRt
  band : t.ride.band = s.ride.band
  attempt : ∀ a, s.tx.attempt = some a → ∃ r, t.tx.attempt =
    some ⟨a.frame, if t.ride.state = .asleep then .gone else emptiedItem a.item, r⟩

theorem closingValues_ended {s : State} (low : s.ride.ign = .low) : RideEnded s (closingValues s) := by
  rw [closingValues_eq]
  refine ⟨rfl, low, fun l => ?_, rfl, rfl, rfl, fun w => Table.at_fill _ _, ⟨rfl, rfl⟩, rfl, rfl, rfl,
    fun a attempt => ⟨a.resend, ?_⟩⟩
  · cases l <;> rfl
  · simp [Transmitter.atClosing, Transmitter.emptyForwarding_eq, attempt]

theorem RideEnded.asleep {s t : State} (ended : RideEnded s t) : RideEnded s (enterAsleep t) := by
  rw [enterAsleep_eq, Transmitter.giveUp_eq]
  refine { ended with
    slots := fun w => Table.at_fill _ _, queue := rfl, beacon := ⟨rfl, rfl⟩, attempt := fun a before => ?_ }
  obtain ⟨r, attempt⟩ := ended.attempt a before
  exact ⟨r, by simp [attempt]⟩

theorem RideEnded.writing {s t : State} (ended : RideEnded s t) : RideEnded s (beginMemoryWrite t) := by
  rw [beginMemoryWrite_eq]
  exact { ended with }

/-- The processing of the records at a qualified closure keeps what the closure has set. -/
theorem RideEnded.closeRecords {s t : State} (ended : RideEnded s t) (closing : t.ride.state = .closing) :
    RideEnded s (closeRecords t) := by
  have closed := closeRecords_closed t
  obtain ⟨frame, faultRt, -, -, lamps⟩ := closed
  refine ⟨frame.inReset.trans ended.reset, by rw [frame.ride]; exact ended.ign, fun l => ?_,
    by rw [frame.ride]; exact ended.classes, by rw [frame.chassis]; exact ended.silence, frame.queue.trans ended.queue,
    fun w => by rw [frame.slots]; exact ended.slots w, ⟨frame.beaconDue.trans ended.beacon.1,
    frame.beaconTimer.trans ended.beacon.2⟩, frame.tables.trans ended.tables, faultRt.trans ended.faultRt,
    by rw [frame.ride]; exact ended.band, fun a before => ?_⟩
  · rcases lamps with same | ⟨u, ride, before, told⟩
    · rw [same]; exact ended.lamps l
    · rw [told]
      exact updateLamps_off (by rw [ride]; exact closing) l (by rw [before]; exact ended.lamps l)
  · obtain ⟨r, attempt⟩ := ended.attempt a before
    rw [frame.ride]
    exact attempt_of_carried (closeRecords_carried t) attempt

/-- The selector leaves a closed ride as it is. -/
theorem RideEnded.selected {s t : State} (ended : RideEnded s t) : RideEnded s (runSelector t) := by
  have keeps (a : Attempt) (before : s.tx.attempt = some a) : ∃ r, (runSelector t).tx.attempt =
      some ⟨a.frame, if t.ride.state = .asleep then .gone else emptiedItem a.item, r⟩ :=
    (ended.attempt a before).imp fun _ => runSelector_keeps_attempt
  obtain ⟨attempt, selected⟩ := runSelector_selected t
  rw [selected] at keeps ⊢
  exact { ended with attempt := keeps }

/-- What the qualified closure leaves beside the end of the ride (R78, R126). -/
structure QualifiedClosed (s t : State) : Prop where
  state : t.ride.state = .closing
  hold : t.ride.hold = s.ride.hold
  rideNumber : t.ride.rideNumber = min (s.ride.rideNumber + 1) 65535
  store : t.store = s.store
  records : t.memory.records = s.memory.records.filterMap (closeRecord s)
  dirty : t.memory.dirty = true
  notices : ∀ f, t.tx.notices.at f = true ↔
    s.tx.notices.at f = true ∨ ∃ r ∈ s.memory.records, r.fault = f ∧ closeRecord s r ≠ some r

/-- The processing of a record reads the definitions and the verdicts alone. -/
theorem closeRecord_congr {s t : State} (tables : t.tables = s.tables) (faultRt : t.faultRt = s.faultRt) :
    closeRecord t = closeRecord s := by
  funext r
  simp only [closeRecord, tables, faultRt]

theorem qualifiedClosure_closed (s : State) : QualifiedClosed s (qualifiedClosure (closingValues s)) := by
  have closed (u : State) (tables : u.tables = s.tables) (faultRt : u.faultRt = s.faultRt)
      (state : u.ride.state = .closing) (hold : u.ride.hold = s.ride.hold)
      (number : u.ride.rideNumber = min (s.ride.rideNumber + 1) 65535) (store : u.store = s.store)
      (memory : u.memory.records = s.memory.records) (soiled : u.memory.dirty = true)
      (notices : u.tx.notices = s.tx.notices) : QualifiedClosed s (closeRecords u) := by
    obtain ⟨frame, -, records, dirty, -⟩ := closeRecords_closed u
    have told := closeRecords_notices u
    rw [closeRecord_congr tables faultRt, memory] at records
    simp only [closeRecord_congr tables faultRt, memory, notices] at told
    exact ⟨by rw [frame.ride, state], by rw [frame.ride, hold], by rw [frame.ride, number], frame.store.trans store,
      records, dirty soiled, told⟩
  rw [closingValues_eq]
  refine closed _ rfl rfl rfl rfl rfl rfl rfl rfl ?_
  simp only [State.setRide, State.setMemory, Transmitter.atClosing, Transmitter.emptyForwarding_eq]

theorem RideEnded.qualified {s t : State} (ended : RideEnded s t) (closing : t.ride.state = .closing) :
    RideEnded s (qualifiedClosure t) :=
  RideEnded.closeRecords (t := (t.setRide { t.ride with rideNumber := min (t.ride.rideNumber + 1) 65535 }).setMemory
    { t.memory with dirty := true }) { ended with } closing

theorem RideEnded.dark {s t : State} (ended : RideEnded s t) (l : Lamp) : lampOutput t l = false := by
  cases l with
  | engine =>
    have off : t.lamps.engine.displayed = .off := ended.lamps .engine
    simp [lampOutput, LampState.conducts, off]
  | abs =>
    have off : t.lamps.abs.displayed = .off := ended.lamps .abs
    simp [lampOutput, LampState.conducts, off]

/-- The closure of a qualified ride begins the MEMORY write (R76, R78, R126). -/
theorem enterClosing_qualified {s : State} (qualified : rideQualified s = true) :
    enterClosing s = beginMemoryWrite (qualifiedClosure (closingValues s)) := by
  have dirty := (qualifiedClosure_closed s).dirty
  simp only [enterClosing, qualified, if_true, dirty]

/-- The closure of any other ride writes where the region is dirty, else the part is ASLEEP at once (R76). -/
theorem enterClosing_unqualified {s : State} (unqualified : rideQualified s = false) (low : s.ride.ign = .low) :
    enterClosing s =
      if s.memory.dirty = true then beginMemoryWrite (closingValues s) else enterAsleep (closingValues s) := by
  have memory : (closingValues s).memory = s.memory := by rw [closingValues_eq]
  have ign : (closingValues s).ride.ign = .low := by rw [closingValues_eq]; exact low
  simp only [enterClosing, unqualified, Bool.false_eq_true, if_false, memory, finishClosing, ign]

theorem rideQualified_iff {s : State} (running : s.ride.state.isRunning = true) : rideQualified s = true ↔
    s.tables.settings.qualifyRun * 1000 ≤ s.ride.runTime ∧ s.ride.speedReached = true := by
  simp only [rideQualified, running, Bool.true_and, Bool.and_eq_true, decide_eq_true_eq]

/-! ### The filtered IGN level -/

section

variable {s : State} {level : Level}

/-- The state of a part whose raw level the filter takes (R69). -/
def filtered (level : Level) (s : State) : State :=
  { s with pins := { s.pins with ign := level }, ride := { s.ride with ign := level, ignCount := 0 } }

theorem ignFilterChange_taken (awake : s.inReset = false) (count : s.ride.ignCount = 20) (changes : s.ride.ign ≠ level) :
    exec (.ignFilterChange level) s = .next (runSelector (ignChanged level (filtered level s))) :=
  (eventWhen_effect awake trivial).trans (congrArg _ (if_pos ⟨count, changes⟩))

theorem ignFilterChange_untaken (awake : s.inReset = false) (below : s.ride.ignCount ≠ 20 ∨ s.ride.ign = level) :
    exec (.ignFilterChange level) s = .next { s with pins := { s.pins with ign := level } } :=
  (eventWhen_effect awake trivial).trans
    (congrArg _ (if_neg fun ⟨count, changes⟩ => below.elim (absurd count) changes))

theorem ignChanged_closes (closes : s.ride.state.isRunning = true ∨
    s.ride.state = .configure ∧ ∀ w, s.mgmt.inbox ≠ .working w) : ignChanged .low s = enterClosing s := by
  rcases closes with running | ⟨configure, idle⟩
  · unfold ignChanged
    cases state : s.ride.state <;> first | rfl | (rw [state] at running; cases running)
  · simp only [ignChanged, configure]
    cases inbox : s.mgmt.inbox with
    | working w => exact absurd inbox (idle w)
    | empty => rfl
    | answered => rfl

theorem ignChanged_ignored (ignored : level = .high ∧ s.ride.state ≠ .asleep ∨ level = .low ∧
    (s.ride.state = .asleep ∨ s.ride.state = .settling ∨ s.ride.state = .closing ∨
      s.ride.state = .configure ∧ ∃ w, s.mgmt.inbox = .working w)) : ignChanged level s = s := by
  rcases ignored with ⟨rfl, awake⟩ | ⟨rfl, asleep | settling | closing | ⟨configure, w, inbox⟩⟩
  · have high : ignChanged .high s = match s.ride.state with
        | .asleep => enterSettling s
        | _ => s := by
      unfold ignChanged
      cases s.ride.state <;> rfl
    rw [high]
    split
    next found => exact absurd found awake
    next => rfl
  · simp only [ignChanged, asleep]
  · simp only [ignChanged, settling]
  · simp only [ignChanged, closing]
  · simp only [ignChanged, configure, inbox]

end

/-- Settles O26: the closure in its three cases, and the levels that no ride state takes. -/
theorem ignitionLowClosesRide : Obligations.IgnitionLowClosesRide := by
  refine ⟨fun s awake running high count idle => ?closes, fun s level awake => ?others⟩
  case others =>
    intro raw taken
    refine ⟨ignFilterChange_untaken awake, fun count changes low configure idle => ?_, fun count changes ignored => ?_⟩
    · subst low
      refine ⟨_, (ignFilterChange_taken awake count changes).trans (congrArg _ (congrArg _
        (ignChanged_closes (.inr ⟨configure, idle⟩)))), ?_⟩
      exact enterClosing_closed (filtered .low s) (by rw [filtered, configure]; rfl) rfl
    · exact (ignFilterChange_taken awake count changes).trans (congrArg _ (congrArg _ (ignChanged_ignored ignored)))
  case closes =>
    have closed := (ignFilterChange_taken (level := .low) awake count (by rw [high]; nofun)).trans
      (congrArg _ (congrArg _ (ignChanged_closes (s := filtered .low s) (.inl running))))
    have ended := closingValues_ended (s := filtered .low s) rfl
    have values := closingValues_eq (filtered .low s)
    have closing : (closingValues (filtered .low s)).ride.state = .closing := by rw [values]
    have counted := rideQualified_iff (s := filtered .low s) running
    by_cases qualified : rideQualified (filtered .low s) = true
    · rw [enterClosing_qualified qualified] at closed
      have done := qualifiedClosure_closed (filtered .low s)
      have ended := (ended.qualified closing).writing.selected
      clear values closing
      generalize qualifiedClosure (closingValues (filtered .low s)) = u at *
      obtain ⟨attempt, selected⟩ := runSelector_selected (beginMemoryWrite u)
      rw [selected, beginMemoryWrite_eq] at closed ended
      refine ⟨_, closed, ?_⟩
      intro _ processed writing
      have spelled : closeRecord (filtered .low s) = processed := by
        funext r
        simp only [closeRecord, FaultRecord.afterGoodRide, filtered, processed]
        cases s.tables.faults.at r.fault with
        | none => rfl
        | some d => cases r.status <;> rfl
      obtain ⟨state, hold, number, store, records, dirty, notices⟩ := done
      rw [spelled] at records notices
      refine ⟨ended.ign, ended.dark, ended.classes, ended.silence, ended.queue, ended.slots, ended.beacon.1,
        ended.beacon.2, ended.tables, ended.faultRt, ended.band, ended.attempt,
        fun _ => ⟨state, hold, ?_, dirty, number, records, notices⟩,
        fun unqualified => absurd (counted.1 qualified) unqualified,
        fun unqualified => absurd (counted.1 qualified) unqualified⟩
      have same : u.store = s.store := store
      simp only [writing, ← same]
    · rw [enterClosing_unqualified (by simpa using qualified) rfl] at closed
      have unqualified := fun claim => qualified (counted.2 claim)
      cases dirty : s.memory.dirty with
      | true =>
        rw [if_pos (show (filtered .low s).memory.dirty = true from dirty)] at closed
        obtain ⟨attempt, selected⟩ := runSelector_selected (beginMemoryWrite (closingValues (filtered .low s)))
        have ended := ended.writing.selected
        rw [selected] at closed ended
        rw [beginMemoryWrite_eq] at closed ended
        rw [values] at closed ended
        refine ⟨_, closed, ended.ign, ended.dark, ended.classes, ended.silence, ended.queue, ended.slots, ended.beacon.1,
          ended.beacon.2, ended.tables, ended.faultRt, ended.band, ended.attempt,
          fun claim => absurd claim unqualified, fun _ _ => ⟨rfl, rfl, rfl, rfl, rfl, ?_⟩,
          fun _ clean => absurd clean (by simp)⟩
        simp only [Transmitter.atClosing, Transmitter.emptyForwarding_eq]; rfl
      | false =>
        rw [if_neg (show ¬(filtered .low s).memory.dirty = true by simp [filtered, dirty])] at closed
        obtain ⟨attempt, selected⟩ := runSelector_selected (enterAsleep (closingValues (filtered .low s)))
        have ended := ended.asleep.selected
        rw [selected] at closed ended
        rw [enterAsleep_eq] at closed ended
        rw [values] at closed ended
        refine ⟨_, closed, ended.ign, ended.dark, ended.classes, ended.silence, ended.queue, ended.slots, ended.beacon.1,
          ended.beacon.2, ended.tables, ended.faultRt, ended.band, ended.attempt,
          fun claim => absurd claim unqualified, fun _ soiled => absurd soiled (by simp),
          fun _ _ => ⟨rfl, rfl, rfl, rfl, rfl, fun f => ?_⟩⟩
        simp only [Transmitter.giveUp_eq, Table.at_fill]

end Sys2Proof.Proofs
end

section
/-!
PROOFS. The check value and the substitute payload, the offers to the slots, and the expiries of monitors and vote
rules (R13, R27, R30, R60 to R63, R154, R155).
-/

namespace Sys2Proof.Proofs

open Sys2Proof.Machine

/-! ### The check value (R13) -/

theorem byteSum_eq_sum (p : List Byte) :
    byteSum p = ((List.range p.length).map fun i => (p.getD i 0).toNat).sum := by
  induction p with
  | nil => rfl
  | cons b p ih =>
    rw [List.length_cons, List.range_succ_eq_map, List.map_cons, List.sum_cons, List.map_map]
    exact congrArg (b.toNat + ·) ih

theorem byteSum_eraseIdx (p : List Byte) (k : Nat) : byteSum (p.eraseIdx k) =
    ((List.range p.length).map fun i => if i = k then 0 else (p.getD i 0).toNat).sum := by
  induction p generalizing k with
  | nil => simp [byteSum]
  | cons b p ih =>
    rw [List.length_cons, List.range_succ_eq_map, List.map_cons, List.sum_cons, List.map_map]
    cases k with
    | zero => simpa [Function.comp_def] using byteSum_eq_sum p
    | succ k => simpa [Function.comp_def, byteSum] using ih k

theorem frameCheck_toNat (c : ChecksumByte) (p : List Byte) : (frameCheck c p).toNat =
    255 - (((List.range p.length).map fun i => if i = c.byte.val then 0 else (p.getD i 0).toNat).sum +
      c.seed.toNat) % 256 := by
  rw [frameCheck, byteSum_eraseIdx, byteOf, BitVec.toNat_ofNat]
  omega

/-- The check value does not depend on the byte that holds it. -/
theorem frameCheck_set (c : ChecksumByte) (p : List Byte) (b : Byte) :
    frameCheck c (p.set c.byte.val b) = frameCheck c p := by
  rw [frameCheck, List.eraseIdx_set_eq, frameCheck]

/-! ### The substitute payload (R155) -/

/-- The last-good payload with its stale marker set. -/
def markedBytes (e : WatchEntry) (lastGood : List Byte) : List Byte :=
  match e.staleMarker with
  | none => lastGood
  | some i => lastGood.set i.val 0xFF

theorem markedBytes_length (e : WatchEntry) (b : List Byte) : (markedBytes e b).length = b.length := by
  unfold markedBytes
  cases e.staleMarker <;> simp

theorem markedBytes_other {e : WatchEntry} {b : List Byte} {k : Nat}
    (other : ∀ i, e.staleMarker = some i → i.val ≠ k) : (markedBytes e b).getD k 0 = b.getD k 0 := by
  unfold markedBytes
  cases marker : e.staleMarker with
  | none => rfl
  | some i => simp [List.getElem?_set_ne (other i marker)]

theorem substituteBytes_of_checksum {e : WatchEntry} {c : ChecksumByte} (checksum : e.checksum = some c)
    (b : List Byte) :
    substituteBytes e b = (markedBytes e b).set c.byte.val (frameCheck c (markedBytes e b)) := by
  simp only [substituteBytes, checksum]
  rfl

theorem substituteBytes_of_none {e : WatchEntry} (checksum : e.checksum = none) (b : List Byte) :
    substituteBytes e b = markedBytes e b := by
  simp only [substituteBytes, checksum]
  rfl

/-- Every byte but the checksum byte is that of the marked payload. -/
theorem substituteBytes_other {e : WatchEntry} {b : List Byte} {k : Nat}
    (other : ∀ c, e.checksum = some c → c.byte.val ≠ k) : (substituteBytes e b).getD k 0 = (markedBytes e b).getD k 0 := by
  cases checksum : e.checksum with
  | none => rw [substituteBytes_of_none checksum]
  | some c =>
    rw [substituteBytes_of_checksum checksum]
    simp [List.getElem?_set_ne (other c checksum)]

theorem consistent_marker {e : WatchEntry} (consistent : e.consistent = true) {i : Fin 8}
    (marker : e.staleMarker = some i) : i.val < e.expectedLength ∧ ∀ c, e.checksum = some c → c.byte ≠ i := by
  simp only [WatchEntry.consistent, Bool.and_eq_true, marker, belowLength, decide_eq_true_eq] at consistent
  obtain ⟨⟨⟨⟨⟨-, below⟩, -⟩, -⟩, apart⟩, -⟩ := consistent
  refine ⟨below, fun c checksum => ?_⟩
  simpa [checksum, differ] using apart

theorem consistent_checksum {e : WatchEntry} (consistent : e.consistent = true) {c : ChecksumByte}
    (checksum : e.checksum = some c) : c.byte.val < e.expectedLength := by
  simp only [WatchEntry.consistent, Bool.and_eq_true, checksum, Option.map_some, belowLength,
    decide_eq_true_eq] at consistent
  obtain ⟨⟨⟨⟨⟨⟨-, below⟩, -⟩, -⟩, -⟩, -⟩, -⟩ := consistent
  exact below

/-- Settles O13, from the bytes of the marked payload and the check value's own byte. -/
theorem substituteBuilt : Obligations.SubstituteBuilt := by
  intro e b consistent length
  refine ⟨FramesFit.substituteBytes_length e b, fun c checksum => ?_, fun i marker => ?_, fun k marker checksum => ?_,
    frameCheck_toNat⟩
  · have below : c.byte.val < (markedBytes e b).length := by
      rw [markedBytes_length, length]; exact consistent_checksum consistent checksum
    rw [substituteBytes_of_checksum checksum, frameCheck_set]
    simp [List.getElem?_set_self below]
  · obtain ⟨below, apart⟩ := consistent_marker consistent marker
    rw [substituteBytes_other fun c checksum same => apart c checksum (Fin.ext same)]
    simp [markedBytes, marker, List.getElem?_set_self (length ▸ below : i.val < b.length)]
  · rw [substituteBytes_other checksum, markedBytes_other marker]

/-! ### Vote rules (R60 to R63) -/

theorem voteEvaluated_iff {s : State} {r : VoteRule} : voteEvaluated s r = true ↔
    (∀ m ∈ r.members, signalFreshness s m = .fresh) ∧ ∃ m ∈ r.members, r.floor ≤ (signalValue s m).natAbs := by
  simp [voteEvaluated]

theorem mem_members_of_three {r : VoteRule} {c m : Fin 64} (three : r.memberC = some c) :
    m ∈ r.members ↔ m = r.memberA ∨ m = r.memberB ∨ m = c := by
  simp [VoteRule.members, three]

theorem mem_members_of_two {r : VoteRule} {m : Fin 64} (two : r.memberC = none) :
    m ∈ r.members ↔ m = r.memberA ∨ m = r.memberB := by
  simp [VoteRule.members, two]

theorem voteSamples_of_three {s : State} {k : Fin 4} {r : VoteRule} {c : Fin 64} (three : r.memberC = some c)
    (evaluated : voteEvaluated s r = true) : voteSamples s k r =
      threeMemberSamples k (agree r (signalValue s r.memberA) (signalValue s r.memberB))
        (agree r (signalValue s r.memberA) (signalValue s c)) (agree r (signalValue s r.memberB) (signalValue s c)) := by
  simp only [voteSamples, evaluated, if_true, three]

theorem voteSamples_of_two {s : State} {k : Fin 4} {r : VoteRule} (two : r.memberC = none)
    (evaluated : voteEvaluated s r = true) : voteSamples s k r =
      [(.vote .split k, passIf (agree r (signalValue s r.memberA) (signalValue s r.memberB)))] := by
  simp only [voteSamples, evaluated, if_true, two]

/-- Settles O18: the table of R62, row by row. -/
theorem threeMemberOutcome : Obligations.ThreeMemberOutcome := by
  intro s k r c three fresh floor
  have evaluated : voteEvaluated s r = true := by
    simp only [voteEvaluated_iff, mem_members_of_three three]
    exact ⟨fresh, floor⟩
  rw [voteSamples_of_three three evaluated]
  generalize agree r (signalValue s r.memberA) (signalValue s r.memberB) = ab
  generalize agree r (signalValue s r.memberA) (signalValue s c) = ac
  generalize agree r (signalValue s r.memberB) (signalValue s c) = bc
  refine ⟨?_, ?_, ?_, ?_, fun two => ?_, ?_⟩
  case refine_5 => cases ab <;> cases ac <;> cases bc <;> first | rfl | cases two
  all_goals
    rintro ⟨rfl, rfl, rfl⟩
    rfl

/-- What the samples of an event leave, with the attempt's resend mark open. -/
theorem eq_of_sampleFrame {s t : State} (frame : SampleFrame s t) : t = { s with
    faultRt := t.faultRt, memory := t.memory, lamps := t.lamps,
    tx := { s.tx with notices := t.tx.notices, attempt := t.tx.attempt } } := by
  rw [← frame.pending, ← frame.inReset, ← frame.pins, ← frame.strap, ← frame.tables, ← frame.chassis, ← frame.watchRt,
    ← frame.monitors, ← frame.signalRt, ← frame.voteTimers, ← frame.ride, ← frame.mgmt, ← frame.store, ← frame.freeUses]
  dsimp only
  rw [← frame.response, ← frame.slots, ← frame.queue, ← frame.beaconDue, ← frame.beaconTimer, ← frame.beaconPeriod,
    ← frame.noticeLevel, ← frame.enables, ← frame.errorCount, ← frame.offline]

theorem voteDue_of_expired {s : State} {k : Fin 4} {r : VoteRule} (rule : s.tables.votes.at k = some r)
    (expired : s.voteTimers.at k = some 0) (awake : s.ride.band ≠ .deep) : voteDue s k = true := by
  simp [voteDue, rule, expired, awake]

/-- Settles O19, with the samples of the rule by its number of members. -/
theorem voteExpiryReloads : Obligations.VoteExpiryReloads := by
  intro s k r awake shallow rule expired
  have frame := takeSamples_frame (voteSamples s k r) s
  have sampled := eq_of_sampleFrame frame
  obtain ⟨attempt, selected⟩ := runSelector_selected (voteExpires k r s)
  refine ⟨_, (eventWhen_effect awake (voteDue_of_expired rule expired shallow)).trans
    (congrArg _ (show expireVote k s = _ by simp only [expireVote, rule]; exact selected)), ?_, ?_, ?_⟩
  · simp only [voteExpires, setVoteTimer, State.setVoteTimers]
    rw [frame.voteTimers]
    generalize takeSamples (voteSamples s k r) s = x at sampled
    rw [sampled]
  · intro skipped
    have unevaluated : voteSamples s k r = [] := by
      refine if_neg fun evaluated => ?_
      obtain ⟨fresh, m, member, floor⟩ := voteEvaluated_iff.1 evaluated
      rcases skipped with ⟨n, other, stale⟩ | below
      · exact stale (fresh n other)
      · exact absurd (below m member) (Nat.not_lt.2 floor)
    rw [unevaluated]
    rfl
  · intro two freshA freshB floor
    have evaluated : voteEvaluated s r = true := by
      simp only [voteEvaluated_iff, mem_members_of_two two]
      refine ⟨?_, floor.elim (fun above => ⟨_, .inl rfl, above⟩) fun above => ⟨_, .inr rfl, above⟩⟩
      rintro m (rfl | rfl)
      · exact freshA
      · exact freshB
    rw [voteSamples_of_two two evaluated]
    rfl

/-! ### Offers (R154) -/

/-- An offer replaces the slot's frame and detaches the attempt of the one it replaces. -/
theorem offerSlot_eq (w : Fin 32) (fr : Frame) (s : State) : offerSlot w fr s = { s with
    tx := { s.tx with
      slots := s.tx.slots.put w (some fr)
      attempt := s.tx.attempt.map fun a => { a with item := if a.item = .slot w then .gone else a.item } } } := by
  have attempt := detach_attempt s.tx (· == .slot w)
  simp only [beq_iff_eq] at attempt
  rw [← attempt]
  unfold offerSlot Transmitter.detach
  split
  · rfl
  · split <;> rfl

/-- A substitute is offered exactly under HOLD with a last-good payload (R32). -/
theorem offerSubstitute_cases (w : Fin 32) (e : WatchEntry) (s : State) :
    (∃ b, e.policy = .hold ∧ (s.watchRt.at w).lastGood = some b ∧
      offerSubstitute w e s = offerSlot w ⟨e.identifier, substituteBytes e b⟩ s) ∨
    (e.policy ≠ .hold ∨ (s.watchRt.at w).lastGood = none) ∧ offerSubstitute w e s = s := by
  unfold offerSubstitute
  by_cases hold : e.policy = .hold
  · rw [if_pos hold]
    cases payload : (s.watchRt.at w).lastGood with
    | none => exact .inr ⟨.inr rfl, rfl⟩
    | some b => exact .inl ⟨b, hold, rfl, rfl⟩
  · exact .inr ⟨.inl hold, if_neg hold⟩

/-! ### Monitor expiries (R27, R30) -/

/-- A STALE mark with its substitute offer and the reload, on a state that the samples have left. -/
structure StaleReloaded (w : Fin 32) (e : WatchEntry) (s t : State) : Prop where
  watchRt : t.watchRt = s.watchRt.put w { s.watchRt.at w with freshness := .stale }
  monitors : t.monitors = s.monitors.put w { s.monitors.at w with remaining := e.deadline, arrivals := 0 }
  offered : e.policy = .hold → ∀ b, (s.watchRt.at w).lastGood = some b →
    t.tx.slots = s.tx.slots.put w (some ⟨e.identifier, substituteBytes e b⟩)
  kept : e.policy ≠ .hold ∨ (s.watchRt.at w).lastGood = none → t.tx.slots = s.tx.slots
  attempt : ∀ a, s.tx.attempt = some a → ∃ r, t.tx.attempt = some ⟨a.frame,
    if e.policy = .hold ∧ (s.watchRt.at w).lastGood ≠ none ∧ a.item = .slot w then .gone else a.item, r⟩
  rest : t = { s with
    watchRt := t.watchRt, monitors := t.monitors, tx := { s.tx with slots := t.tx.slots, attempt := t.tx.attempt } }

theorem staleReloaded (w : Fin 32) (e : WatchEntry) (s : State) :
    StaleReloaded w e s (reloadMonitor w e (offerSubstitute w e (markStale w s))) := by
  have lastGood : ((markStale w s).watchRt.at w).lastGood = (s.watchRt.at w).lastGood := by
    simp only [markStale, State.setWatchRt_watchRt, Table.at_put, if_true]
  rcases offerSubstitute_cases w e (markStale w s) with ⟨b, hold, payload, offered⟩ | ⟨withheld, kept⟩
  · rw [lastGood] at payload
    rw [offered, offerSlot_eq]
    refine ⟨rfl, rfl, fun _ c held => ?_, fun withheld => ?_, fun a attempt => ⟨a.resend, ?_⟩, rfl⟩
    · cases payload.symm.trans held; rfl
    · rcases withheld with other | empty
      · exact absurd hold other
      · cases payload.symm.trans empty
    · simp [reloadMonitor, setMonitor, State.setMonitors, markStale, State.setWatchRt, attempt, hold, payload]
  · rw [lastGood] at withheld
    rw [kept]
    refine ⟨rfl, rfl, fun hold c held => ?_, fun _ => rfl, fun a attempt => ⟨a.resend, ?_⟩, rfl⟩
    · rcases withheld with other | empty
      · exact absurd hold other
      · cases held.symm.trans empty
    · have unmarked : ¬(e.policy = .hold ∧ (s.watchRt.at w).lastGood ≠ none ∧ a.item = .slot w) :=
        fun ⟨hold, held, _⟩ => withheld.elim (absurd hold) held
      rw [if_neg unmarked]
      exact attempt

/-- The same read against the state before the samples, the selector run. -/
structure StaleExpired (w : Fin 32) (e : WatchEntry) (s x t : State) : Prop where
  watchRt : t.watchRt = s.watchRt.put w { s.watchRt.at w with freshness := .stale }
  monitors : t.monitors = s.monitors.put w { s.monitors.at w with remaining := e.deadline, arrivals := 0 }
  offered : e.policy = .hold → ∀ b, (s.watchRt.at w).lastGood = some b →
    t.tx.slots = s.tx.slots.put w (some ⟨e.identifier, substituteBytes e b⟩)
  kept : e.policy ≠ .hold ∨ (s.watchRt.at w).lastGood = none → t.tx.slots = s.tx.slots
  attempt : ∀ a, s.tx.attempt = some a → ∃ r, t.tx.attempt = some ⟨a.frame,
    if e.policy = .hold ∧ (s.watchRt.at w).lastGood ≠ none ∧ a.item = .slot w then .gone else a.item, r⟩
  rest : t = { s with
    watchRt := t.watchRt, monitors := t.monitors, faultRt := x.faultRt, memory := x.memory, lamps := x.lamps,
    tx := { s.tx with notices := x.tx.notices, slots := t.tx.slots, attempt := t.tx.attempt } }

theorem staleExpired {w : Fin 32} {e : WatchEntry} {s x : State} (frame : SampleFrame s x)
    (carries : carried x.tx = carried s.tx) :
    StaleExpired w e s x (runSelector (reloadMonitor w e (offerSubstitute w e (markStale w x)))) := by
  obtain ⟨watchRt, monitors, offered, kept, detached, rest⟩ := staleReloaded w e x
  generalize reloadMonitor w e (offerSubstitute w e (markStale w x)) = u at *
  rw [frame.watchRt] at watchRt offered kept detached
  rw [frame.monitors] at monitors
  rw [frame.slots] at offered kept
  have current (a : Attempt) (attempt : s.tx.attempt = some a) : ∃ r, (runSelector u).tx.attempt = some ⟨a.frame,
      if e.policy = .hold ∧ (s.watchRt.at w).lastGood ≠ none ∧ a.item = .slot w then .gone else a.item, r⟩ := by
    obtain ⟨r, attempt⟩ := attempt_of_carried carries attempt
    exact (detached _ attempt).imp fun _ => runSelector_keeps_attempt
  obtain ⟨attempt, selected⟩ := runSelector_selected u
  rw [selected] at current ⊢
  refine ⟨watchRt, monitors, offered, kept, current, ?_⟩
  have sampled := eq_of_sampleFrame frame
  rw [rest, sampled]

theorem timedEntry_of_deadline {t : Tables} {w : Fin 32} {e : WatchEntry} (entry : t.watch.at w = some e)
    (deadline : e.deadline ≠ 0) : timedEntry t w = some e := by
  simp [timedEntry, entry, deadline]

theorem monitorDue_of_expired {s : State} {w : Fin 32} {e : WatchEntry} (timed : timedEntry s.tables w = some e)
    (running : (s.monitors.at w).running = true) (expired : (s.monitors.at w).remaining = 0)
    (awake : s.ride.band ≠ .deep) : monitorDue s w = true := by
  simp [monitorDue, timed, running, expired, awake]

/-- Settles O11, with the STALE mark after the MISSING sample. -/
theorem monitorExpiryMarksStale : Obligations.MonitorExpiryMarksStale := by
  intro s w e awake shallow entry deadline mode running expired
  have timed := timedEntry_of_deadline entry deadline
  have effect : exec (.monitorExpiry w) s = .next (runSelector (monitorExpires w e s)) :=
    (eventWhen_effect awake (monitorDue_of_expired timed running expired shallow)).trans
      (congrArg _ (by simp only [expireMonitor, timed, if_neg mode]))
  obtain ⟨watchRt, monitors, offered, kept, attempt, rest⟩ :=
    staleExpired (w := w) (e := e) (takeSample_frame (.frame .missing w) .fail s) (takeSample_carried _ _ _)
  exact ⟨_, effect, watchRt, monitors, offered, kept, attempt, rest⟩

/-- The two samples of a PERIOD expiry (R30). -/
def periodSampled (w : Fin 32) (e : WatchEntry) (s : State) : State :=
  takeSamples [(.frame .missing w, passIf ((s.monitors.at w).arrivals != 0)),
    (.frame .early w, passIf (decide ((s.monitors.at w).arrivals ≤ e.burstLimit)))] s

theorem periodSampled_eq (w : Fin 32) (e : WatchEntry) (s : State) : periodSampled w e s =
    takeSample (.frame .early w) (if (s.monitors.at w).arrivals ≤ e.burstLimit then .pass else .fail)
      (takeSample (.frame .missing w) (if (s.monitors.at w).arrivals = 0 then .fail else .pass) s) := by
  simp only [periodSampled, takeSamples, List.foldl_cons, List.foldl_nil, passIf, bne_iff_ne, ne_eq, ite_not,
    decide_eq_true_eq]

theorem periodExpires_eq (w : Fin 32) (e : WatchEntry) (s : State) : periodExpires w e s =
    reloadMonitor w e (if (s.monitors.at w).arrivals = 0 then
      offerSubstitute w e (markStale w (periodSampled w e s)) else periodSampled w e s) := rfl

/-- Settles O12, by whether a frame arrived in the period. -/
theorem periodExpiryJudgesArrivals : Obligations.PeriodExpiryJudgesArrivals := by
  intro s w e awake shallow entry deadline mode running expired
  have timed := timedEntry_of_deadline entry deadline
  have effect : exec (.periodExpiry w) s = .next (runSelector (periodExpires w e s)) :=
    (eventWhen_effect awake (monitorDue_of_expired timed running expired shallow)).trans
      (congrArg _ (by simp only [expirePeriod, timed, if_pos mode]))
  have frame : SampleFrame s (periodSampled w e s) := takeSamples_frame _ s
  have carries : carried (periodSampled w e s).tx = carried s.tx := takeSamples_carried _ s
  rw [periodExpires_eq] at effect
  dsimp only
  rw [← periodSampled_eq w e s]
  generalize periodSampled w e s = x at *
  by_cases none : (s.monitors.at w).arrivals = 0
  · rw [if_pos none] at effect
    obtain ⟨watchRt, monitors, offered, kept, attempt, rest⟩ := staleExpired (w := w) (e := e) frame carries
    refine ⟨_, effect, ?_, monitors, fun _ => offered, fun withheld => kept (withheld.resolve_left (absurd none)),
      ?_, rest⟩
    · rw [if_pos none]; exact watchRt
    · simpa only [none, true_and] using attempt
  · rw [if_neg none] at effect
    have current (a : Attempt) (attempt : s.tx.attempt = some a) :
        ∃ r, (runSelector (reloadMonitor w e x)).tx.attempt = some ⟨a.frame, a.item, r⟩ :=
      (attempt_of_carried carries attempt).imp fun _ attempt => runSelector_keeps_attempt attempt
    obtain ⟨attempt, selected⟩ := runSelector_selected (reloadMonitor w e x)
    rw [selected] at effect current
    refine ⟨_, effect, ?_, ?_, fun arrived => absurd arrived none, fun _ => frame.slots, ?_, ?_⟩
    · rw [if_neg none]; exact frame.watchRt
    · simp only [reloadMonitor, setMonitor, State.setMonitors_monitors, frame.monitors]
    · simpa only [none, false_and, if_false] using current
    · simp only [reloadMonitor, setMonitor, State.setMonitors]
      have sampled := eq_of_sampleFrame frame
      rw [sampled]

end Sys2Proof.Proofs
end

section
/-!
PROOFS. The evaluation of a frame's signals and the role updates (R39 to R50, R73, R74, R77, R88, R143).
-/

namespace Sys2Proof.Proofs

open Sys2Proof.Machine

/-! ### Signals of a frame (R41 to R45) -/

/-! The samples of one signal, with their findings written out (R42 to R44). -/

section

variable (i : Fin 64) (e : SignalEntry) (rt : SignalRuntime) (v : Int)

theorem rangeSample_eq : rangeSample i e v =
    [(.signal .range i, if e.rangeLow ≤ v ∧ v ≤ e.rangeHigh then .pass else .fail)] := by
  simp only [rangeSample, passIf, Bool.and_eq_true, decide_eq_true_eq]

theorem stepSample_eq (previous : Option Int) : stepSample i e previous v = match previous with
    | none => []
    | some q =>
      if e.stepLimit = 0 then [] else [(.signal .step i, if (v - q).natAbs ≤ e.stepLimit then .pass else .fail)] := by
  cases previous with
  | none => rfl
  | some q => simp only [stepSample, passIf, decide_eq_true_eq]

theorem frozenSample_eq : frozenSample i e rt v = if e.frozenLimit = 0 ∨ rt.previous = none then []
    else [(.signal .frozen i, if nextFrozenRun rt v < e.frozenLimit then .pass else .fail)] := by
  simp only [frozenSample, passIf, decide_eq_true_eq]

end

/-- A signal's runtime after its evaluation on a payload (R41, R44). -/
def evaluatedRt (payload : List Byte) (e : SignalEntry) (rt : SignalRuntime) : SignalRuntime :=
  let v := scale e (extract e payload)
  ⟨some v, some v, nextFrozenRun rt v⟩

theorem evaluateAt_tables (payload : List Byte) (s : State) (i : Fin 64) :
    (evaluateAt payload s i).tables = s.tables := by
  unfold evaluateAt
  split
  · rfl
  · exact (takeSamples_frame _ s).tables

theorem evaluateAt_signalRt (payload : List Byte) (s : State) (i j : Fin 64) :
    (evaluateAt payload s i).signalRt.at j = match s.tables.signals.at i with
      | none => s.signalRt.at j
      | some e => if j = i then evaluatedRt payload e (s.signalRt.at j) else s.signalRt.at j := by
  unfold evaluateAt
  cases s.tables.signals.at i with
  | none => rfl
  | some e =>
    simp only [evaluateSignal, setSignalRt, State.setSignalRt_signalRt, (takeSamples_frame _ s).signalRt, Table.at_put]
    by_cases same : j = i
    · subst same
      rw [if_pos rfl, if_pos rfl]
      rfl
    · rw [if_neg same, if_neg (Ne.symm same)]

/-- Signals evaluated one after the other: each once, every other as it was. -/
theorem foldl_evaluateAt {payload : List Byte} {is : List (Fin 64)} (distinct : is.Nodup) (s : State) (j : Fin 64) :
    (is.foldl (evaluateAt payload) s).signalRt.at j = match s.tables.signals.at j with
      | none => s.signalRt.at j
      | some e => if j ∈ is then evaluatedRt payload e (s.signalRt.at j) else s.signalRt.at j := by
  induction is generalizing s with
  | nil => simp only [List.foldl_nil, List.not_mem_nil, if_false]; split <;> rfl
  | cons i is ih =>
    obtain ⟨fresh, distinct⟩ := List.nodup_cons.1 distinct
    rw [List.foldl_cons, ih distinct, evaluateAt_tables, evaluateAt_signalRt]
    by_cases same : j = i
    · subst same
      cases s.tables.signals.at j with
      | none => rfl
      | some e => simp [fresh]
    · cases s.tables.signals.at i <;> cases s.tables.signals.at j <;> simp [same]

theorem mem_signalsOf {t : Tables} {w : Fin 32} {i : Fin 64} :
    i ∈ signalsOf t w ↔ ∃ e, t.signals.at i = some e ∧ e.watch = w := by
  unfold signalsOf
  rw [List.mem_filter]
  cases t.signals.at i <;> simp

theorem signalsOf_nodup (t : Tables) (w : Fin 32) : (signalsOf t w).Nodup := (List.nodup_finRange 64).filter _

/-- The signals' runtimes are those of another state: what every role update keeps. -/
theorem applyRoleUpdate_signalRt (s : State) (u : RoleUpdate) : (applyRoleUpdate s u).signalRt = s.signalRt := by
  have kept (t : State) (same : t.signalRt = s.signalRt) (cls : TailClass) :
      (beginClass cls t).signalRt = s.signalRt ∧ (endClass cls t).signalRt = s.signalRt := by
    unfold beginClass endClass
    split
    · exact ⟨same, same⟩
    · exact ⟨same, same⟩
  unfold applyRoleUpdate
  split
  · rfl
  · unfold engineUpdate
    dsimp only
    split
    · rfl
    · split
      · exact (kept _ (by rfl) _).1
      · split
        · exact (kept _ (by rfl) _).2
        · rfl
  · unfold speedUpdate
    split <;> rfl
  · unfold regulatingUpdate
    split
    · exact (kept s rfl _).1
    · split
      · exact (kept s rfl _).2
      · rfl
  · unfold readyUpdate
    split <;> rfl

theorem evaluateFrame_signalRt (w : Fin 32) (payload : List Byte) (s : State) :
    (evaluateFrame w payload s).signalRt = ((signalsOf s.tables w).foldl (evaluateAt payload) s).signalRt :=
  foldl_keeps (fun t => t.signalRt = ((signalsOf s.tables w).foldl (evaluateAt payload) s).signalRt) _
    (fun t u same => (applyRoleUpdate_signalRt t u).trans same) _ _ rfl

/-! ### Role updates (R73, R74, R88, R143) -/

/-- A class whose condition has ended (R84). -/
def endedClass (tail : Nat) : BlankingClass := if tail = 0 then ⟨false, none⟩ else ⟨true, some tail⟩

section

variable {s : State}

theorem beginClass_follows (follows : s.ride.state.isRunning = true ∨ s.ride.state = .configure) (cls : TailClass) :
    beginClass cls s = { s with ride := { s.ride with classes := s.ride.classes.put cls ⟨true, none⟩ } } := by
  have follows : followsConditions s = true := by simpa [followsConditions] using follows
  rw [beginClass, if_pos follows]
  rfl

theorem endClass_follows (follows : s.ride.state.isRunning = true ∨ s.ride.state = .configure) (cls : TailClass) :
    endClass cls s = { s with ride := { s.ride with
      classes := s.ride.classes.put cls (endedClass (s.tables.settings.tail cls)) } } := by
  have follows : followsConditions s = true := by simpa [followsConditions] using follows
  rw [endClass, if_pos follows]
  rfl

end

/-- An ENGINE_STATE update that moves the ride state (R73, R74). -/
theorem engineUpdate_moves {s : State} {v : Int} (moves : engineState v s.ride.state ≠ s.ride.state) :
    engineUpdate v s = { moveGates s.ride.state (engineState v s.ride.state) s with
      ride := { s.ride with
        state := engineState v s.ride.state,
        classes := { s.ride.classes with
          crank := if engineState v s.ride.state = .cranking then ⟨true, none⟩
            else if s.ride.state = .cranking then endedClass s.tables.settings.crankTail
            else s.ride.classes.crank } } } := by
  have running : s.ride.state.isRunning = true := by
    by_contra stopped
    exact moves (by simp [engineState, Bool.eq_false_of_not_eq_true stopped])
  have follows : (engineState v s.ride.state).isRunning = true ∨ engineState v s.ride.state = .configure := by
    left
    simp only [engineState, running]
    split_ifs <;> first | rfl | exact running
  unfold engineUpdate
  dsimp only
  rw [if_neg moves]
  split
  next cranks =>
    rw [beginClass_follows follows]
    rfl
  next =>
    split
    next =>
      rw [endClass_follows follows]
      rfl
    next => rfl

theorem engineUpdate_stays {s : State} {v : Int} (stays : engineState v s.ride.state = s.ride.state) :
    engineUpdate v s = s := if_pos stays

theorem refreshLamp_proveOut (s : State) (l : LampState) : (refreshLamp s l).proveOut = l.proveOut := by
  unfold refreshLamp LampState.display
  split_ifs <;> rfl

/-- An ABS_READY update that ends the ABS prove-out (R143). -/
theorem readyUpdate_ends {s : State} {v : Int} (ready : v ≠ 0) (proving : s.lamps.abs.proveOut = true)
    (outlasted : s.lamps.proveTimer = none) : readyUpdate v s = endAbsProveOut s :=
  if_pos ⟨ready, proving, outlasted⟩

/-- Settles O16: the signals one by one, then each role's update. -/
theorem frameEvaluatesSignals : Obligations.FrameEvaluatesSignals := by
  refine ⟨fun s w payload => ⟨fun i e entry named => ?value, fun i unnamed => ?other, ?order⟩,
    fun u before v follows => ?roles⟩
  case value =>
    rw [evaluateFrame_signalRt, foldl_evaluateAt (signalsOf_nodup _ _), entry]
    exact if_pos (mem_signalsOf.2 ⟨e, entry, named⟩)
  case other =>
    rw [evaluateFrame_signalRt, foldl_evaluateAt (signalsOf_nodup _ _)]
    have outside : i ∉ signalsOf s.tables w := fun inside => by
      obtain ⟨e, entry, named⟩ := mem_signalsOf.1 inside
      exact unnamed e entry named
    cases s.tables.signals.at i with
    | none => rfl
    | some e => exact if_neg outside
  case order =>
    have named : signalsOf s.tables w =
        (List.finRange 64).filter fun i => (s.tables.signals.at i).any (·.watch == w) :=
      List.filter_congr fun i _ => by cases s.tables.signals.at i <;> rfl
    unfold evaluateFrame
    rw [named]
    refine congrArg₂ (List.foldl applyRoleUpdate) (List.foldl_ext _ _ _ fun u i _ => ?_)
      (List.filterMap_congr fun i _ => ?_)
    · unfold evaluateAt
      cases u.tables.signals.at i with
      | none => rfl
      | some e =>
        simp only [evaluateSignal, rangeSample_eq, stepSample_eq, frozenSample_eq]
        rfl
    · unfold roleUpdateOf
      cases s.tables.signals.at i <;> rfl
  case roles =>
    intro old new moved ended withClasses ready
    refine ⟨engineUpdate_stays, fun moves => ⟨?_, fun w => ?_, fun k => ?_⟩, ?_, ?_, ?_, ?_⟩
    · have entered : moved = _ := engineUpdate_moves moves
      clear_value moved
      subst entered
      rfl
    · show (engineUpdate v u).monitors.at w = _
      rw [engineUpdate_moves moves]
      simp only [moveGates, State.setVoteTimers_monitors, State.setMonitors_monitors, Table.at_build]
      rfl
    · show (engineUpdate v u).voteTimers.at k = _
      rw [engineUpdate_moves moves]
      simp only [moveGates, State.setVoteTimers_voteTimers, Table.at_build]
      rfl
    · rfl
    · show regulatingUpdate before v u = _
      rw [regulatingUpdate, beginClass_follows follows, endClass_follows follows]
      rfl
    · rintro (off | free | timed)
      · exact if_neg fun ⟨on, _⟩ => on off
      · exact if_neg fun ⟨_, proving, _⟩ => by rw [free] at proving; cases proving
      · exact if_neg fun ⟨_, _, outlasted⟩ => timed outlasted
    · intro nonzero proving outlasted
      have ends : ready = endAbsProveOut u := readyUpdate_ends nonzero proving outlasted
      rw [ends]
      refine ⟨rfl, refreshLamp_proveOut _ _, LampsAgree.refreshLamp_request _ _, LampsAgree.refreshLamp_request _ _,
        fun running configured shallow => ?_⟩
      exact refreshLamp_displayed shallow running configured rfl

end Sys2Proof.Proofs
end

section
/-!
PROOFS. The Chassis Port: its counts, its condition and what becomes of a frame that is not screened (R1 to R6, R9).
-/

namespace Sys2Proof.Proofs

open Sys2Proof.Machine

/-! ### A change of the port's condition (R4, R89, R90) -/

/-- The PORT_DOWN class as a condition leaves it (R89). -/
def portClass (tail : Nat) : PortCondition → BlankingClass
  | .live => endedClass tail
  | .down => ⟨true, none⟩

/-- The PORT_DOWN class set for a condition. -/
def portClassed (tail : Nat) (c : PortCondition) (s : State) : State :=
  { s with ride := { s.ride with classes := { s.ride.classes with portDown := portClass tail c } } }

theorem classFollowsPort_eq {s : State} (follows : s.ride.state.isRunning = true ∨ s.ride.state = .configure)
    (c : PortCondition) : classFollowsPort c s = portClassed s.tables.settings.portTail c s := by
  cases c with
  | live => exact endClass_follows follows .portDown
  | down => exact beginClass_follows follows .portDown

/-- What a change of condition leaves, in either order of sample and class. -/
def PortChanged (tail : Nat) (c : PortCondition) (y t : State) : Prop :=
  t = portClassed tail c (takeSample (.portDown .chassis) c.finding y) ∨
    t = takeSample (.portDown .chassis) c.finding (portClassed tail c y)

theorem changePortCondition_changed {s : State} (follows : s.ride.state.isRunning = true ∨ s.ride.state = .configure)
    (c : PortCondition) : ∃ n, (n = s.freeUses ∨ n = s.freeUses + 1) ∧
      PortChanged s.tables.settings.portTail c
        { s with chassis := { s.chassis with condition := c }, freeUses := n } (changePortCondition c s) := by
  have sampledFirst (y : State) (ride : y.ride = s.ride) (tables : y.tables = s.tables) :
      classFollowsPort c (takeSample (.portDown .chassis) c.finding y) =
        portClassed s.tables.settings.portTail c (takeSample (.portDown .chassis) c.finding y) := by
    have frame := takeSample_frame (.portDown .chassis) c.finding y
    rw [classFollowsPort_eq (by rw [frame.ride, ride]; exact follows), frame.tables, tables]
  unfold changePortCondition
  dsimp only
  split
  · refine ⟨_, .inr rfl, ?_⟩
    split
    · exact .inr (congrArg _ (classFollowsPort_eq (s := { s with
        chassis := { s.chassis with condition := c }, freeUses := s.freeUses + 1 }) follows c))
    · exact .inl (sampledFirst _ rfl rfl)
  · exact ⟨_, .inl rfl, .inl (sampledFirst _ rfl rfl)⟩

/-- Beside the sample and the class, a change of condition changes nothing. -/
theorem PortChanged.eq {tail : Nat} {c : PortCondition} {y t : State} (changed : PortChanged tail c y t) : t = { y with
    faultRt := t.faultRt, memory := t.memory, lamps := t.lamps,
    ride := { y.ride with classes := { y.ride.classes with portDown := portClass tail c } },
    tx := { y.tx with notices := t.tx.notices, attempt := t.tx.attempt } } := by
  rcases changed with rfl | rfl
  · have sampled := eq_of_sampleFrame (takeSample_frame (.portDown .chassis) c.finding y)
    generalize takeSample (.portDown .chassis) c.finding y = x at sampled
    rw [sampled]
    rfl
  · exact eq_of_sampleFrame (takeSample_frame (.portDown .chassis) c.finding (portClassed tail c y))

theorem PortChanged.carried {tail : Nat} {c : PortCondition} {y t : State} (changed : PortChanged tail c y t) :
    carried t.tx = carried y.tx := by
  rcases changed with rfl | rfl
  · exact takeSample_carried _ _ y
  · exact takeSample_carried _ _ (portClassed tail c y)

theorem portTakes_follows {s : State} (takes : portTakes s = true) :
    s.ride.state.isRunning = true ∨ s.ride.state = .configure := by
  simp only [portTakes, Bool.and_eq_true, Bool.or_eq_true, beq_iff_eq] at takes
  exact takes.1

theorem takeBusError_eq (s : State) : takeBusError s = runSelector
    (if s.chassis.condition = .live ∧ 128 ≤ min (s.chassis.errorCount + 8) 255 then
      changePortCondition .down { s with chassis := { s.chassis with errorCount := min (s.chassis.errorCount + 8) 255 } }
    else { s with chassis := { s.chassis with errorCount := min (s.chassis.errorCount + 8) 255 } }) := rfl

theorem silenceExpires_eq (s : State) : silenceExpires s = runSelector
    (if s.chassis.condition = .live then changePortCondition .down { s with chassis := { s.chassis with silence := none } }
    else { s with chassis := { s.chassis with silence := none } }) := rfl

/-- Settles O6: the error's count and the silence timer, each with the change to DOWN that it brings. -/
theorem errorsAndSilenceTakePortDown : Obligations.ErrorsAndSilenceTakePortDown := by
  unfold Obligations.ErrorsAndSilenceTakePortDown
  intro failed classed taken
  have isTaken {y u : State} {tail : Nat} (changed : PortChanged tail .down y u) : taken y (runSelector u) := by
    rcases changed with rfl | rfl
    · exact .inl rfl
    · exact .inr rfl
  refine ⟨fun s awake takes => ?error, fun s awake running shallow expired => ?silence⟩
  case error =>
    have effect : exec .busError s = .next (takeBusError s) := eventWhen_effect awake takes
    rw [takeBusError_eq] at effect
    by_cases falls : s.chassis.condition = .live ∧ 128 ≤ min (s.chassis.errorCount + 8) 255
    · obtain ⟨n, uses, changed⟩ := changePortCondition_changed
        (s := { s with chassis := { s.chassis with errorCount := min (s.chassis.errorCount + 8) 255 } })
        (portTakes_follows takes) .down
      rw [if_pos falls] at effect
      have isTaken := isTaken changed
      have rest := changed.eq
      generalize changePortCondition _ _ = u at *
      obtain ⟨attempt, selected⟩ := runSelector_selected u
      rw [selected] at effect isTaken
      refine ⟨_, effect, ?_, ?_, fun _ _ => ⟨?_, ?_, n, uses, isTaken⟩, fun stays => ?_, ?_⟩
      · rw [rest]
      · rw [rest]
      · rw [rest]
      · rw [rest]; rfl
      · rcases stays with down | below
        · rw [falls.1] at down; cases down
        · omega
      · rw [rest]
    · rw [if_neg falls] at effect
      obtain ⟨attempt, selected⟩ :=
        runSelector_selected { s with chassis := { s.chassis with errorCount := min (s.chassis.errorCount + 8) 255 } }
      rw [selected] at effect
      exact ⟨_, effect, rfl, rfl, fun live reached => absurd ⟨live, reached⟩ falls, fun _ => ⟨rfl, rfl⟩, rfl⟩
  case silence =>
    have effect : exec .silenceTimerExpiry s = .next (silenceExpires s) :=
      eventWhen_effect awake (by simp [silenceDue, running, shallow, expired])
    rw [silenceExpires_eq] at effect
    cases live : s.chassis.condition with
    | live =>
      obtain ⟨n, uses, changed⟩ := changePortCondition_changed
        (s := { s with chassis := { s.chassis with silence := none } }) (.inl running) .down
      rw [if_pos live] at effect
      have isTaken := isTaken changed
      have rest := changed.eq
      generalize changePortCondition _ _ = u at *
      obtain ⟨attempt, selected⟩ := runSelector_selected u
      rw [selected] at effect isTaken
      refine ⟨_, effect, ?_, fun _ => ⟨?_, n, uses, isTaken⟩, fun down => (nomatch down), ?_⟩
      · rw [rest]
      · rw [rest]; rfl
      · rw [rest]
    | down =>
      rw [if_neg (by rw [live]; nofun)] at effect
      obtain ⟨attempt, selected⟩ := runSelector_selected { s with chassis := { s.chassis with silence := none } }
      rw [selected] at effect
      exact ⟨_, effect, by rw [← live], fun live => (nomatch live), fun _ => rfl, rfl⟩

end Sys2Proof.Proofs
end

section
/-!
PROOFS. What an error-free frame does: the port's account of it, and the frames that are not screened (R2, R9).
-/

namespace Sys2Proof.Proofs

open Sys2Proof.Machine

/-! ### What the screening of a frame leaves -/

/-- The blocks and values that no screening touches. -/
structure ScreenFrame (s t : State) : Prop where
  pending : t.pending = s.pending
  pins : t.pins = s.pins
  strap : t.strap = s.strap
  tables : t.tables = s.tables
  chassis : t.chassis = s.chassis
  mgmt : t.mgmt = s.mgmt
  store : t.store = s.store
  band : t.ride.band = s.ride.band
  ign : t.ride.ign = s.ride.ign
  rideNumber : t.ride.rideNumber = s.ride.rideNumber
  hold : t.ride.hold = s.ride.hold

theorem ScreenFrame.refl (s : State) : ScreenFrame s s := by constructor <;> rfl

theorem screenFrame_stable (s : State) : ScreenStable (ScreenFrame s) where
  sample src x {t} kept := by
    have frame := takeSample_frame src x t
    exact ⟨frame.pending.trans kept.pending, frame.pins.trans kept.pins, frame.strap.trans kept.strap,
      frame.tables.trans kept.tables, frame.chassis.trans kept.chassis, frame.mgmt.trans kept.mgmt,
      frame.store.trans kept.store, by rw [frame.ride, kept.band], by rw [frame.ride, kept.ign],
      by rw [frame.ride, kept.rideNumber], by rw [frame.ride, kept.hold]⟩
  begins cls t kept := by
    unfold beginClass
    split
    · exact { kept with }
    · exact kept
  ends cls t kept := by
    unfold endClass
    split
    · exact { kept with }
    · exact kept
  arrival _ kept := { kept with }
  watchRt _ _ kept := { kept with }
  offer _ _ _ _ kept := { kept with }
  enqueue fr t _ kept := by
    unfold enqueueFrame
    split <;> exact { kept with }
  signal _ _ _ _ kept := { kept with }
  histories _ _ kept := { kept with }
  engine _ _ _ _ kept := { kept with }
  speed kept := { kept with }
  absReady kept := { kept with }

/-! ### The port's account of a frame (R2) -/

section

variable {s : State} {id : CanId} {p : List Byte}

/-- The state that the port hands to the Frame Screener. -/
def accounted (s : State) : State :=
  reloadSilence (returnToLive { s with chassis := { s.chassis with errorCount := s.chassis.errorCount - 1 } })

theorem errorFreeFrame_taken (awake : s.inReset = false) (takes : portTakes s = true) (short : p.length ≤ 8) :
    exec (.errorFreeFrame id p) s = .next (runSelector (screenFrame id p (accounted s))) := by
  have fits : fitsFrame p = true := by simpa [fitsFrame] using short
  exact (if_pos fits).trans (eventWhen_effect awake takes)

/-- The port after a frame that it takes. -/
def portAfterFrame (s : State) : ChassisPort :=
  ⟨s.chassis.errorCount - 1,
    if s.chassis.condition = .down ∧ s.chassis.errorCount - 1 < 96 then .live else s.chassis.condition,
    if s.ride.state.isRunning then some s.tables.settings.silenceTime else s.chassis.silence⟩

theorem reloadSilence_eq (s : State) : reloadSilence s = { s with chassis := { s.chassis with
    silence := if s.ride.state.isRunning then some s.tables.settings.silenceTime else s.chassis.silence } } := by
  unfold reloadSilence
  split <;> rfl

/-- A port that stays LIVE, or DOWN, is accounted for by its own fields alone. -/
theorem accounted_stays (stays : s.chassis.condition = .live ∨ 96 ≤ s.chassis.errorCount - 1) :
    accounted s = { s with chassis := portAfterFrame s } := by
  have same : ¬(s.chassis.condition = .down ∧ s.chassis.errorCount - 1 < 96) := by
    rintro ⟨down, below⟩
    rcases stays with live | high
    · cases down.symm.trans live
    · omega
  have kept : returnToLive { s with chassis := { s.chassis with errorCount := s.chassis.errorCount - 1 } } =
      { s with chassis := { s.chassis with errorCount := s.chassis.errorCount - 1 } } := if_neg same
  rw [accounted, kept, reloadSilence_eq, portAfterFrame, if_neg same]

/-- A port that returns to LIVE sends its sample and ends its class, in either order (R4, R89, R90). -/
theorem accounted_returns (follows : s.ride.state.isRunning = true ∨ s.ride.state = .configure)
    (down : s.chassis.condition = .down) (below : s.chassis.errorCount - 1 < 96) :
    ∃ n, (n = s.freeUses ∨ n = s.freeUses + 1) ∧ ∃ x,
      PortChanged s.tables.settings.portTail .live
        { s with chassis := { portAfterFrame s with silence := s.chassis.silence }, freeUses := n } x ∧
      accounted s = { x with chassis := portAfterFrame s } := by
  obtain ⟨n, uses, changed⟩ := changePortCondition_changed
    (s := { s with chassis := { s.chassis with errorCount := s.chassis.errorCount - 1 } }) follows .live
  have returned : returnToLive { s with chassis := { s.chassis with errorCount := s.chassis.errorCount - 1 } } =
      changePortCondition .live
        { s with chassis := { s.chassis with errorCount := s.chassis.errorCount - 1 } } := if_pos ⟨down, below⟩
  rw [accounted, returned, reloadSilence_eq]
  generalize changePortCondition _ _ = u at *
  have after : portAfterFrame s = ⟨s.chassis.errorCount - 1, .live,
      if s.ride.state.isRunning then some s.tables.settings.silenceTime else s.chassis.silence⟩ := by
    rw [portAfterFrame, if_pos ⟨down, below⟩]
  rw [after]
  have rest := changed.eq
  have tables : u.tables = s.tables := by rw [rest]
  have state : u.ride.state = s.ride.state := by rw [rest]
  have chassis : u.chassis = ⟨s.chassis.errorCount - 1, .live, s.chassis.silence⟩ := by rw [rest]
  exact ⟨n, uses, u, changed, by rw [tables, state, chassis]⟩

theorem accounted_chassis (follows : s.ride.state.isRunning = true ∨ s.ride.state = .configure) :
    (accounted s).chassis = portAfterFrame s := by
  by_cases returns : s.chassis.condition = .down ∧ s.chassis.errorCount - 1 < 96
  · obtain ⟨_, -, x, -, same⟩ := accounted_returns follows returns.1 returns.2
    rw [same]
  · rw [accounted_stays]
    cases condition : s.chassis.condition with
    | live => exact .inl rfl
    | down => exact .inr (Nat.not_lt.1 fun below => returns ⟨condition, below⟩)

/-- What the port's account of a frame leaves of the other blocks. -/
structure AccountFrame (s t : State) : Prop where
  pending : t.pending = s.pending
  pins : t.pins = s.pins
  strap : t.strap = s.strap
  tables : t.tables = s.tables
  watchRt : t.watchRt = s.watchRt
  monitors : t.monitors = s.monitors
  signalRt : t.signalRt = s.signalRt
  voteTimers : t.voteTimers = s.voteTimers
  mgmt : t.mgmt = s.mgmt
  store : t.store = s.store
  slots : t.tx.slots = s.tx.slots
  queue : t.tx.queue = s.tx.queue
  ride : t.ride = { s.ride with classes := t.ride.classes }
  carried : carried t.tx = carried s.tx

theorem accounted_frame (follows : s.ride.state.isRunning = true ∨ s.ride.state = .configure) :
    AccountFrame s (accounted s) := by
  by_cases returns : s.chassis.condition = .down ∧ s.chassis.errorCount - 1 < 96
  · obtain ⟨_, -, x, changed, same⟩ := accounted_returns follows returns.1 returns.2
    rw [same]
    have carries := changed.carried
    have rest := changed.eq
    constructor
    case carried => exact carries
    all_goals rw [rest]
  · rw [accounted_stays]
    · constructor <;> rfl
    · cases condition : s.chassis.condition with
      | live => exact .inl rfl
      | down => exact .inr (Nat.not_lt.1 fun below => returns ⟨condition, below⟩)

end

/-- Settles O7: the port's account, then what the screening leaves. -/
theorem frameAccountedByPort : Obligations.FrameAccountedByPort := by
  intro s id p awake takes short
  have follows := portTakes_follows takes
  refine ⟨_, accounted s, errorFreeFrame_taken awake takes short, rfl, ?_⟩
  have account := accounted_frame follows
  have screened := (screenFrame_stable (accounted s)).screenFrame id short (.refl _)
  have chassis := screened.chassis.trans (accounted_chassis follows)
  obtain ⟨attempt, selected⟩ := runSelector_selected (screenFrame id p (accounted s))
  rw [selected]
  refine ⟨accounted_stays, fun down below => ?_, chassis, screened.tables.trans account.tables,
    screened.store.trans account.store, screened.pins.trans account.pins, screened.strap.trans account.strap,
    screened.mgmt.trans account.mgmt, screened.band.trans ?_, screened.ign.trans ?_, screened.rideNumber.trans ?_,
    screened.hold.trans ?_, screened.pending.trans account.pending⟩
  · obtain ⟨n, uses, x, changed, same⟩ := accounted_returns follows down below
    refine ⟨n, uses, ?_⟩
    rcases changed with rfl | rfl
    · exact .inl same
    · exact .inr same
  all_goals rw [account.ride]

/-! ### Frames that are not screened (R9) -/

theorem enqueueFrame_eq (fr : Frame) (s : State) : enqueueFrame fr s = { s with tx := { s.tx with
    queue := if s.tx.queue.length < 8 then s.tx.queue ++ [fr] else s.tx.queue.tail ++ [fr]
    attempt := s.tx.attempt.map fun a => { a with
      item := if 8 ≤ s.tx.queue.length ∧ a.item = .queueHead then .gone else a.item } } } := by
  unfold enqueueFrame
  by_cases room : s.tx.queue.length < 8
  · rw [if_pos room]
    simp [room, Nat.not_le.2 room, State.setTx]
  · rw [if_neg room, if_neg room]
    have attempt := detach_attempt s.tx (· == .queueHead)
    simp only [beq_iff_eq] at attempt
    simp only [Nat.not_lt.1 room, true_and]
    rw [← attempt]
    unfold Transmitter.detach
    split
    · rfl
    · split <;> rfl

theorem watchNaming_eq_none {t : Tables} {id : CanId} (unnamed : ∀ w e, t.watch.at w = some e → e.identifier ≠ id) :
    watchNaming t id = none := by
  refine List.find?_eq_none.2 fun w _ => ?_
  cases entry : t.watch.at w with
  | none => simp
  | some e => simpa using unnamed w e entry

theorem identifier_of_watchNaming {t : Tables} {id : CanId} {w : Fin 32} {e : WatchEntry}
    (named : watchNaming t id = some w) (entry : t.watch.at w = some e) : e.identifier = id := by
  have found := List.find?_some named
  simpa [entry] using found

section

variable {s : State} {id : CanId} {p : List Byte}

theorem screenFrame_partId (through : s.passThrough = true) (part : isPartId s.strap id = true) :
    screenFrame id p s = s := by
  simp only [screenFrame, through, if_true, part]

theorem screenFrame_through (through : s.passThrough = true) (other : isPartId s.strap id = false) :
    screenFrame id p s = enqueueFrame ⟨id, p⟩ s := by
  simp only [screenFrame, through, if_true, other, Bool.false_eq_true, if_false]

theorem screenFrame_unnamed (screens : s.passThrough = false) (unnamed : watchNaming s.tables id = none) :
    screenFrame id p s = s := by
  simp only [screenFrame, screens, Bool.false_eq_true, if_false, unnamed]

theorem screenFrame_named {w : Fin 32} {e : WatchEntry} (screens : s.passThrough = false)
    (named : watchNaming s.tables id = some w) (entry : s.tables.watch.at w = some e) :
    screenFrame id p s = screenArrival w e p s := by
  simp only [screenFrame, screens, Bool.false_eq_true, if_false, named, entry]

theorem accounted_passThrough (follows : s.ride.state.isRunning = true ∨ s.ride.state = .configure) :
    (accounted s).passThrough = s.passThrough := by
  have account := accounted_frame follows
  rw [State.passThrough, account.ride, account.mgmt, State.passThrough]

end

/-- Settles O8: the queue in pass-through, and the frame that names no entry. -/
theorem unscreenedFrameDisposed : Obligations.UnscreenedFrameDisposed := by
  refine ⟨fun s id p awake takes short through => ?through, fun s id p awake takes short screens unnamed => ?dropped⟩
  case through =>
    have follows := portTakes_follows takes
    have effect := errorFreeFrame_taken (id := id) awake takes short
    have account := accounted_frame follows
    have through := (accounted_passThrough follows).trans through
    have state : (accounted s).ride.state = s.ride.state := by rw [account.ride]
    obtain ⟨-, -, strap, -, watchRt, monitors, signalRt, voteTimers, -, -, slots, queue, -, carries⟩ := account
    generalize accounted s = x at *
    cases part : isPartId s.strap id with
    | true =>
      rw [screenFrame_partId through (by rw [strap]; exact part)] at effect
      have current (a : Attempt) (attempt : s.tx.attempt = some a) :
          ∃ r, (runSelector x).tx.attempt = some ⟨a.frame, a.item, r⟩ :=
        (attempt_of_carried carries attempt).imp fun _ => runSelector_keeps_attempt
      obtain ⟨attempt, selected⟩ := runSelector_selected x
      rw [selected] at effect current
      refine ⟨_, effect, ?_, watchRt, monitors, signalRt, voteTimers, slots, state, ?_⟩
      · simpa using queue
      · simpa using current
    | false =>
      rw [screenFrame_through through (by rw [strap]; exact part), enqueueFrame_eq, queue] at effect
      have current (a : Attempt) (attempt : s.tx.attempt = some a) : ∃ r, (runSelector (enqueueFrame ⟨id, p⟩ x)).tx.attempt =
          some ⟨a.frame, if 8 ≤ s.tx.queue.length ∧ a.item = .queueHead then .gone else a.item, r⟩ := by
        obtain ⟨r, attempt⟩ := attempt_of_carried carries attempt
        refine ⟨r, runSelector_keeps_attempt ?_⟩
        rw [enqueueFrame_eq, attempt, queue]
        rfl
      rw [enqueueFrame_eq, queue] at current
      obtain ⟨attempt, selected⟩ := runSelector_selected _
      rw [selected] at effect current
      refine ⟨_, effect, ?_, watchRt, monitors, signalRt, voteTimers, slots, state, ?_⟩
      · simp
      · simpa using current
  case dropped =>
    have follows := portTakes_follows takes
    have effect := errorFreeFrame_taken (id := id) awake takes short
    have account := accounted_frame follows
    have stays (live : s.chassis.condition = .live) := accounted_stays (.inl live)
    rw [screenFrame_unnamed ((accounted_passThrough follows).trans screens)
      (by rw [account.tables]; exact watchNaming_eq_none unnamed)] at effect
    generalize accounted s = x at *
    obtain ⟨attempt, selected⟩ := runSelector_selected x
    refine ⟨_, effect.trans (congrArg _ selected), account.watchRt, account.monitors, account.signalRt,
      account.voteTimers, account.slots, account.queue, ?_, fun live => ?_⟩
    · rw [account.ride]
    · rw [stays live]
      exact ⟨rfl, rfl, rfl⟩

end Sys2Proof.Proofs
end

section
/-!
PROOFS. The arrival of a watched frame: what its checks find, what becomes of its entry, and the offer (R11 to R19).
-/

namespace Sys2Proof.Proofs

open Sys2Proof.Machine

/-! ### The findings of an arrival (R12 to R17) -/

section

variable {w : Fin 32} {e : WatchEntry} {p : List Byte} {s : State}

theorem checksumHolds_iff : checksumHolds e p = true ↔
    ∀ c, e.checksum = some c → p.getD c.byte.val 0 = frameCheck c p := by
  unfold checksumHolds
  cases e.checksum <;> simp

theorem reachesAlive_iff : reachesAlive e p = true ↔
    p.length = e.expectedLength ∧ ∀ c, e.checksum = some c → p.getD c.byte.val 0 = frameCheck c p := by
  rw [reachesAlive, Bool.and_eq_true, beq_iff_eq, checksumHolds_iff]

/-- A frame is a repeat exactly where it carries the previous alive value (R14). -/
theorem aliveCase_isGood (previous : Option (BitVec 4)) (received : BitVec 4) :
    (aliveCase previous received).isGood = true ↔ previous ≠ some received := by
  cases previous with
  | none => simp [aliveCase, AliveCase.isGood]
  | some q =>
    by_cases repeated : received = q
    · subst repeated
      simp [aliveCase, AliveCase.isGood]
    · have apart : q ≠ received := Ne.symm repeated
      simp only [aliveCase, repeated, if_false, ne_eq, Option.some.injEq, apart, not_false_eq_true, iff_true]
      split_ifs <;> rfl

theorem arrivalGood_iff : arrivalGood s w e p = true ↔ p.length = e.expectedLength ∧
    (∀ c, e.checksum = some c → p.getD c.byte.val 0 = frameCheck c p) ∧
    ¬∃ a, e.alive = some a ∧ (s.watchRt.at w).previousAlive = some (a.received p) := by
  rw [arrivalGood, Bool.and_eq_true, reachesAlive_iff, and_assoc]
  refine and_congr_right fun _ => and_congr_right fun _ => ?_
  unfold aliveCaseOf
  cases alive : e.alive with
  | none => simp
  | some a => simpa using aliveCase_isGood (s.watchRt.at w).previousAlive (a.received p)

/-- The verdict on a frame reads the entry's previous alive value alone. -/
theorem arrivalGood_congr {t : State} (watchRt : t.watchRt = s.watchRt) : arrivalGood t w e p = arrivalGood s w e p := by
  rw [arrivalGood, arrivalGood, aliveCaseOf, aliveCaseOf, watchRt]

theorem offers_iff {policy : ForwardPolicy} {good : Bool} : policy.offers good = true ↔
    policy = .pass ∨ (policy = .drop ∨ policy = .hold) ∧ good = true := by
  cases policy <;> simp [ForwardPolicy.offers]

/-! ### What the parts of an arrival leave -/

theorem monitorArrival_watchRt : (monitorArrival w s).watchRt = s.watchRt := by
  unfold monitorArrival
  split
  · rfl
  · dsimp only
    split
    · exact (takeSamples_frame _ _).watchRt
    · rfl

theorem arrivalChecked_watchRt : (arrivalChecked w e p s).watchRt = s.watchRt :=
  (takeSamples_frame _ _).watchRt.trans monitorArrival_watchRt

end

/-- The waiting frames and the attempt's item are those of another state. -/
structure ForwardingKept (s t : State) : Prop where
  slots : t.tx.slots = s.tx.slots
  queue : t.tx.queue = s.tx.queue
  carried : carried t.tx = carried s.tx

theorem forwardingKept_stable (s : State) : CheckStable (ForwardingKept s) where
  sample src x {t} kept := by
    have frame := takeSample_frame src x t
    exact ⟨frame.slots.trans kept.slots, frame.queue.trans kept.queue,
      (takeSample_carried src x t).trans kept.carried⟩
  begins cls t kept := by
    unfold beginClass
    split
    · exact { kept with }
    · exact kept
  ends cls t kept := by
    unfold endClass
    split
    · exact { kept with }
    · exact kept
  arrival _ kept := { kept with }
  watchRt _ _ kept := { kept with }
  signal _ _ _ _ kept := { kept with }
  histories _ _ kept := { kept with }
  engine _ _ _ _ kept := { kept with }
  speed kept := { kept with }
  absReady kept := { kept with }

/-- The whole arrival of a frame that names an entry, on a port that takes it. -/
theorem arrival_screened {s : State} {id : CanId} {p : List Byte} {w : Fin 32} {e : WatchEntry}
    (awake : s.inReset = false) (takes : portTakes s = true) (short : p.length ≤ 8) (screens : s.passThrough = false)
    (named : watchNaming s.tables id = some w) (entry : s.tables.watch.at w = some e) :
    exec (.errorFreeFrame id p) s = .next (runSelector (screenArrival w e p (accounted s))) := by
  have follows := portTakes_follows takes
  have account := accounted_frame follows
  rw [errorFreeFrame_taken awake takes short, screenFrame_named ((accounted_passThrough follows).trans screens)
    (by rw [account.tables]; exact named) (by rw [account.tables]; exact entry)]

/-- Settles O10, from what the checks and the evaluation leave of the slots. -/
theorem arrivalForwarded : Obligations.ArrivalForwarded := by
  intro s id p w e awake takes short screens named entry
  have effect := arrival_screened awake takes short screens named entry
  have account := accounted_frame (portTakes_follows takes)
  have kept := (forwardingKept_stable (accounted s)).arrivalEvaluated w e short ⟨rfl, rfl, rfl⟩
  have identifier := identifier_of_watchNaming named entry
  have good := (arrivalGood_iff (s := s) (w := w) (e := e) (p := p))
  rw [← arrivalGood_congr (arrivalChecked_watchRt.trans account.watchRt)] at good
  rw [screenArrival_eq, identifier] at effect
  have slots := kept.slots.trans account.slots
  have queue := kept.queue.trans account.queue
  have carries := kept.carried.trans account.carried
  generalize arrivalGood (arrivalChecked w e p (accounted s)) w e p = verdict at *
  generalize arrivalEvaluated w e p (accounted s) = x at *
  by_cases offered : e.policy.offers verdict = true
  · rw [if_pos offered] at effect
    have current (a : Attempt) (attempt : s.tx.attempt = some a) : ∃ r, (runSelector (offerSlot w ⟨id, p⟩ x)).tx.attempt =
        some ⟨a.frame, if a.item = .slot w then .gone else a.item, r⟩ := by
      obtain ⟨r, attempt⟩ := attempt_of_carried carries attempt
      refine ⟨r, runSelector_keeps_attempt ?_⟩
      rw [offerSlot_eq, attempt]
      rfl
    rw [offerSlot_eq, slots] at effect current
    obtain ⟨attempt, selected⟩ := runSelector_selected _
    rw [selected] at effect current
    rw [offers_iff, good] at offered
    refine ⟨_, effect, fun none => ?_, fun _ => rfl, fun _ _ => rfl, fun held bad => ?_, fun a attempt => ?_, queue⟩
    · rw [none] at offered
      simp at offered
    · rcases offered with pass | ⟨-, good⟩
      · rw [pass] at held; simp at held
      · exact absurd good bad
    · obtain ⟨r, attempt⟩ := current a attempt
      refine ⟨_, r, attempt, fun ⟨_, slot⟩ => if_pos slot, fun kept => if_neg fun slot => ?_⟩
      exact kept.elim (absurd offered) (absurd slot)
  · rw [if_neg offered] at effect
    have current (a : Attempt) (attempt : s.tx.attempt = some a) :
        ∃ r, (runSelector x).tx.attempt = some ⟨a.frame, a.item, r⟩ :=
      (attempt_of_carried carries attempt).imp fun _ => runSelector_keeps_attempt
    obtain ⟨attempt, selected⟩ := runSelector_selected x
    rw [selected] at effect current
    rw [offers_iff, good] at offered
    refine ⟨_, effect, fun _ => slots, fun pass => absurd (.inl pass) offered,
      fun held good => absurd (.inr ⟨held, good⟩) offered, fun _ _ => slots, fun a attempt => ?_, queue⟩
    obtain ⟨r, attempt⟩ := current a attempt
    exact ⟨_, r, attempt, fun ⟨offers, _⟩ => absurd offers offered, fun _ => rfl⟩

end Sys2Proof.Proofs
end

section
/-!
PROOFS. The whole arrival of a watched frame, in the order of R11.
-/

namespace Sys2Proof.Proofs

open Sys2Proof.Machine

/-! ### The alive value (R14, R15) -/

/-- The alive value that an arrival presents, where it reaches the alive check. -/
def presentedAlive (e : WatchEntry) (p : List Byte) : Option (BitVec 4) :=
  if reachesAlive e p then e.alive.map (·.received p) else none

/-- The samples of the alive check. -/
def sequenceSamples (w : Fin 32) (previous : Option (BitVec 4)) : Option (BitVec 4) → List (Source × Finding)
  | none => []
  | some r => (aliveCase previous r).samples w

/-- The arrival restarts its entry's alive sequence. -/
def restarts (previous received : Option (BitVec 4)) : Bool :=
  received == some 0 && previous.any fun q => q != 0 && q + 1 != 0

theorem aliveCase_eq_restart (previous : Option (BitVec 4)) (r : BitVec 4) :
    aliveCase previous r = .restart ↔ restarts previous (some r) = true := by
  cases previous with
  | none => simp [aliveCase, restarts]
  | some q =>
    simp only [aliveCase, restarts, Option.any_some, Bool.and_eq_true, beq_iff_eq, Option.some.injEq, bne_iff_ne]
    split_ifs with next same zero
    · subst next; simpa using fun zero _ => zero
    · subst same; simpa using fun zero apart => absurd zero apart
    · subst zero; simpa using ⟨Ne.symm same, Ne.symm next⟩
    · simpa using fun is => absurd is zero

theorem sequenceSamples_eq (w : Fin 32) (previous received : Option (BitVec 4)) :
    sequenceSamples w previous received = match previous, received with
      | some q, some r =>
        if r = q + 1 then [(.frame .alive w, .pass), (.frame .restart w, .pass)]
        else if r = q then [(.frame .alive w, .fail)]
        else if r = 0 then [(.frame .restart w, .fail)]
        else [(.frame .alive w, .fail)]
      | some _, none => []
      | none, _ => [] := by
  cases previous with
  | none => cases received <;> rfl
  | some q =>
    cases received with
    | none => rfl
    | some r =>
      simp only [sequenceSamples, aliveCase]
      split_ifs <;> rfl

section

variable (w : Fin 32) (e : WatchEntry) (p : List Byte) (s : State)

theorem arrivalGood_eq : arrivalGood s w e p = (reachesAlive e p &&
    ((presentedAlive e p).isNone || presentedAlive e p != (s.watchRt.at w).previousAlive)) := by
  rw [Bool.eq_iff_iff]
  unfold arrivalGood presentedAlive aliveCaseOf
  cases reachesAlive e p with
  | false => simp
  | true =>
    cases e.alive with
    | none => simp
    | some a => simpa [ne_comm] using aliveCase_isGood (s.watchRt.at w).previousAlive (a.received p)

/-! ### The parts of the arrival -/

theorem monitorArrival_eq {w : Fin 32} {e : WatchEntry} {s : State} (entry : s.tables.watch.at w = some e) :
    monitorArrival w s =
      takeSamples (if e.deadline != 0 && (s.monitors.at w).running then arrivalSamples w e (s.monitors.at w) else [])
        { s with monitors := if e.deadline != 0 && (s.monitors.at w).running then
            s.monitors.put w ((s.monitors.at w).afterArrival e) else s.monitors } := by
  unfold monitorArrival
  by_cases deadline : e.deadline = 0
  · have untimed : timedEntry s.tables w = none := by simp [timedEntry, entry, deadline]
    have idle : (e.deadline != 0) = false := by simp [deadline]
    rw [untimed, idle]
    rfl
  · have watched : (e.deadline != 0) = true := bne_iff_ne.2 deadline
    rw [timedEntry_of_deadline entry deadline, watched]
    dsimp only
    cases (s.monitors.at w).running <;> rfl

theorem takeSamples_append (xs ys : List (Source × Finding)) (s : State) :
    takeSamples (xs ++ ys) s = takeSamples ys (takeSamples xs s) := List.foldl_append

/-- The entry's runtime as the alive check leaves it. -/
def aliveNoted (received : Option (BitVec 4)) (old : WatchRuntime) : WatchRuntime :=
  { old with previousAlive := if received.isSome then received else old.previousAlive }

/-- What the alive check leaves: its samples, the alive value noted, and at a restart the histories cleared. -/
structure AliveChecked (t : State) : Prop where
  rest : t = { takeSamples (sequenceSamples w (s.watchRt.at w).previousAlive (presentedAlive e p)) s with
    watchRt := t.watchRt, signalRt := t.signalRt }
  own : t.watchRt.at w = aliveNoted (presentedAlive e p) (s.watchRt.at w)
  other : ∀ v, v ≠ w → t.watchRt.at v = s.watchRt.at v
  signalRt : ∀ i, t.signalRt.at i =
    if restarts (s.watchRt.at w).previousAlive (presentedAlive e p) && (s.tables.signals.at i).any (·.watch == w) then
      { s.signalRt.at i with previous := none, frozenRun := 0 }
    else s.signalRt.at i

theorem aliveChecked : AliveChecked w e p s (if reachesAlive e p then aliveCheck w e p s else s) := by
  cases reaches : reachesAlive e p with
  | false =>
    have none : presentedAlive e p = none := by simp [presentedAlive, reaches]
    constructor <;> simp [none, aliveNoted, restarts, sequenceSamples, takeSamples]
  | true =>
    rw [if_pos rfl]
    unfold aliveCheck
    cases alive : e.alive with
    | none =>
      have none : presentedAlive e p = none := by simp [presentedAlive, alive]
      constructor <;> simp [none, aliveNoted, restarts, sequenceSamples, takeSamples]
    | some a =>
      have received : presentedAlive e p = some (a.received p) := by simp [presentedAlive, reaches, alive]
      have frame := takeSamples_frame ((aliveCase (s.watchRt.at w).previousAlive (a.received p)).samples w) s
      dsimp only
      rw [frame.watchRt]
      generalize sampled : takeSamples _ s = u at *
      have sampled : takeSamples (sequenceSamples w (s.watchRt.at w).previousAlive (presentedAlive e p)) s = u := by
        rw [received]; exact sampled
      have restart := aliveCase_eq_restart (s.watchRt.at w).previousAlive (a.received p)
      rw [← received] at restart
      split
      next restarted =>
        refine ⟨by rw [sampled]; rfl, ?_, fun v apart => ?_, fun i => ?_⟩
        · simp [clearHistories, setWatchRt, aliveNoted, received]
        · simp [clearHistories, setWatchRt, frame.watchRt, Table.at_put_ne _ _ (Ne.symm apart)]
        · rw [restart.1 restarted]
          simp only [clearHistories, setWatchRt, State.setSignalRt_signalRt, State.setWatchRt_signalRt,
            State.setWatchRt_tables, Table.at_build, frame.tables, frame.signalRt, Bool.true_and]
          cases s.tables.signals.at i <;> simp
      next kept =>
        refine ⟨by rw [sampled]; rfl, ?_, fun v apart => ?_, fun i => ?_⟩
        · simp [setWatchRt, aliveNoted, received]
        · simp [setWatchRt, frame.watchRt, Table.at_put_ne _ _ (Ne.symm apart)]
        · have kept : restarts (s.watchRt.at w).previousAlive (presentedAlive e p) = false := by
            simpa using fun restarted => kept (restart.2 restarted)
          rw [kept]
          simp [setWatchRt, frame.signalRt]

end

/-- A restart is a good arrival (R14). -/
theorem good_of_restarts {w : Fin 32} {e : WatchEntry} {p : List Byte} {s : State}
    (restarted : restarts (s.watchRt.at w).previousAlive (presentedAlive e p) = true) :
    arrivalGood s w e p = true := by
  rw [arrivalGood_eq]
  cases previous : (s.watchRt.at w).previousAlive with
  | none => simp [previous, restarts] at restarted
  | some q =>
    simp only [previous, restarts, Bool.and_eq_true, beq_iff_eq, Option.any_some, bne_iff_ne] at restarted
    obtain ⟨zero, apart, -⟩ := restarted
    have reaches : reachesAlive e p = true := by
      by_contra fails
      simp [presentedAlive, fails] at zero
    simpa [reaches, zero] using Ne.symm apart

/-- The entries' runtimes are those given: what every evaluation keeps. -/
theorem watchRt_stable (watchRt : Table WatchRuntime 32) : EvaluationStable fun t => t.watchRt = watchRt where
  sample src x {_} kept := (takeSample_frame src x _).watchRt.trans kept
  begins cls t kept := by
    unfold beginClass
    split <;> exact kept
  ends cls t kept := by
    unfold endClass
    split <;> exact kept
  signal _ _ _ _ kept := kept
  engine _ _ _ _ kept := kept
  speed kept := kept
  absReady kept := kept

/-- An arrival with its entry's runtime brought up to date, before its signals are evaluated. -/
def arrivalNoted (w : Fin 32) (e : WatchEntry) (p : List Byte) (s : State) : State :=
  if arrivalGood s w e p then arrivalAccepted w p (arrivalSequenced w e p s) else arrivalSequenced w e p s

theorem arrivalEvaluated_eq (w : Fin 32) (e : WatchEntry) (p : List Byte) (s : State) : arrivalEvaluated w e p s =
    if arrivalGood s w e p then evaluateFrame w p (arrivalNoted w e p s) else arrivalNoted w e p s := by
  unfold arrivalEvaluated arrivalNoted
  rw [arrivalGood_congr arrivalChecked_watchRt]
  cases arrivalGood s w e p <;> rfl

/-- What an arrival's checks leave (R11 to R17). -/
structure ArrivalChecks (w : Fin 32) (e : WatchEntry) (p : List Byte) (s t : State) : Prop where
  rest : t = { takeSamples (sequenceSamples w (s.watchRt.at w).previousAlive (presentedAlive e p))
      (arrivalChecked w e p s) with watchRt := t.watchRt, signalRt := t.signalRt }
  watchRt : ∀ v, t.watchRt.at v = if v = w then
      ⟨if arrivalGood s w e p then .fresh else (s.watchRt.at w).freshness,
        if arrivalGood s w e p then some p else (s.watchRt.at w).lastGood,
        if (presentedAlive e p).isSome then presentedAlive e p else (s.watchRt.at w).previousAlive⟩
    else s.watchRt.at v
  signalRt : ∀ i, t.signalRt.at i =
    if restarts (s.watchRt.at w).previousAlive (presentedAlive e p) && (s.tables.signals.at i).any (·.watch == w) then
      { s.signalRt.at i with previous := none, frozenRun := 0 }
    else s.signalRt.at i

/-- The monitor and the samples of an arrival leave the tables and the signals. -/
theorem arrivalChecked_kept (w : Fin 32) (e : WatchEntry) (p : List Byte) (s : State) :
    (arrivalChecked w e p s).tables = s.tables ∧ (arrivalChecked w e p s).signalRt = s.signalRt := by
  have frame := takeSamples_frame (lengthAndChecksumSamples w e p) (monitorArrival w s)
  have arrived : (monitorArrival w s).tables = s.tables ∧ (monitorArrival w s).signalRt = s.signalRt := by
    unfold monitorArrival
    split
    · exact ⟨rfl, rfl⟩
    · dsimp only
      split
      · have frame := takeSamples_frame (arrivalSamples w ‹_› (s.monitors.at w))
          (setMonitor w ((s.monitors.at w).afterArrival ‹_›) s)
        exact ⟨frame.tables, frame.signalRt⟩
      · exact ⟨rfl, rfl⟩
  exact ⟨frame.tables.trans arrived.1, frame.signalRt.trans arrived.2⟩

theorem arrivalNoted_checks (w : Fin 32) (e : WatchEntry) (p : List Byte) (s : State) :
    ArrivalChecks w e p s (arrivalNoted w e p s) := by
  obtain ⟨rest, own, other, signalRt⟩ : AliveChecked w e p (arrivalChecked w e p s) (arrivalSequenced w e p s) :=
    aliveChecked w e p (arrivalChecked w e p s)
  obtain ⟨tables, signals⟩ := arrivalChecked_kept w e p s
  rw [arrivalChecked_watchRt] at rest own signalRt
  rw [tables, signals] at signalRt
  simp only [arrivalChecked_watchRt] at other
  unfold arrivalNoted
  generalize arrivalSequenced w e p s = u at *
  cases good : arrivalGood s w e p with
  | true =>
    refine ⟨by rw [rest]; rfl, fun v => ?_, signalRt⟩
    by_cases same : v = w
    · subst same
      simp [arrivalAccepted, setWatchRt, own, aliveNoted, good]
    · simp [arrivalAccepted, setWatchRt, Table.at_put_ne _ _ (Ne.symm same), other v same, same]
  | false =>
    refine ⟨rest, fun v => ?_, signalRt⟩
    by_cases same : v = w
    · subst same
      simp [own, aliveNoted, good]
    · simp [other v same, same]

theorem arrivalEvaluated_watchRt (w : Fin 32) (e : WatchEntry) (p : List Byte) (s : State) :
    (arrivalEvaluated w e p s).watchRt = (arrivalNoted w e p s).watchRt := by
  rw [arrivalEvaluated_eq]
  split
  · exact (watchRt_stable (arrivalNoted w e p s).watchRt).evaluateFrame w p rfl
  · rfl

end Sys2Proof.Proofs
end

section
/-!
PROOFS. The obligation on the screening of an arrival.
-/

namespace Sys2Proof.Proofs

open Sys2Proof.Machine

section

variable {w : Fin 32} {e : WatchEntry} {p : List Byte} {s : State}

theorem arrival_watchRt :
    (runSelector (screenArrival w e p s)).watchRt = (arrivalNoted w e p s).watchRt := by
  rw [runSelector_eq_with_attempt, screenArrival_eq]
  split
  · exact arrivalEvaluated_watchRt w e p s
  · exact arrivalEvaluated_watchRt w e p s

/-- A bad arrival evaluates no signal and clears no history. -/
theorem arrival_signalRt_of_bad (bad : arrivalGood s w e p = false) :
    (runSelector (screenArrival w e p s)).signalRt = s.signalRt := by
  have evaluated : (arrivalEvaluated w e p s).signalRt = s.signalRt := by
    have steady : restarts (s.watchRt.at w).previousAlive (presentedAlive e p) = false := by
      by_contra restarted
      rw [good_of_restarts (by simpa using restarted)] at bad
      cases bad
    rw [arrivalEvaluated_eq, bad]
    refine Table.ext_at fun i => ?_
    simpa [steady] using (arrivalNoted_checks w e p s).signalRt i
  rw [runSelector_eq_with_attempt, screenArrival_eq]
  split
  · exact evaluated
  · exact evaluated

end

/-! ### The samples of an arrival, written out (R12, R13, R26, R28, R29) -/

theorem reachesAlive_eq (e : WatchEntry) (p : List Byte) : reachesAlive e p = (p.length == e.expectedLength &&
    e.checksum.all fun c => p.getD c.byte.val 0 == frameCheck c p) := by
  unfold reachesAlive checksumHolds
  cases e.checksum <;> rfl

theorem arrivalSamples_eq (w : Fin 32) (e : WatchEntry) (m : Monitor) (timed : Bool) :
    (if timed then arrivalSamples w e m else []) = match timed, e.mode, m.previous with
      | true, .retrigger, _ => [(.frame .missing w, .pass)]
      | true, .window, none => [(.frame .missing w, .pass)]
      | true, .window, some n =>
        [(.frame .missing w, .pass), (.frame .early w, if e.minimumInterval ≤ n then .pass else .fail)]
      | true, .period, _ => []
      | false, _, _ => [] := by
  unfold arrivalSamples
  cases timed with
  | false => rfl
  | true =>
    cases e.mode with
    | retrigger => rfl
    | period => rfl
    | window => cases m.previous <;> simp [passIf]

/-- A monitor after an arrival, mode by mode. -/
theorem afterArrival_eq (e : WatchEntry) (m : Monitor) : m.afterArrival e = match e.mode with
    | .retrigger => { m with remaining := e.deadline, arrivals := min (m.arrivals + 1) 255 }
    | .window =>
      { m with remaining := e.deadline, arrivals := min (m.arrivals + 1) 255, previous := some 0 }
    | .period => { m with arrivals := min (m.arrivals + 1) 255 } := by
  unfold Monitor.afterArrival
  cases e.mode <;> exact rfl

theorem lengthAndChecksumSamples_eq (w : Fin 32) (e : WatchEntry) (p : List Byte) : lengthAndChecksumSamples w e p =
    if p.length ≠ e.expectedLength then [(.frame .length w, .fail)]
    else if e.checksum = none then [(.frame .length w, .pass)]
    else [(.frame .length w, .pass),
      (.frame .checksum w, if e.checksum.all fun c => p.getD c.byte.val 0 == frameCheck c p then .pass else .fail)] := by
  unfold lengthAndChecksumSamples checksumHolds
  by_cases length : p.length = e.expectedLength
  · rcases Option.eq_none_or_eq_some e.checksum with none | ⟨c, checksum⟩
    · simp [length, none]
    · simp [length, checksum, passIf]
  · simp [length]

/-- Settles O9: the entry's runtime from the checks, and with the port LIVE the whole event in order. -/
theorem arrivalScreened : Obligations.ArrivalScreened := by
  intro s id p w e awake takes short screens named entry
  have follows := portTakes_follows takes
  have account := accounted_frame follows
  have watched : (accounted s).watchRt.at w = s.watchRt.at w := by rw [account.watchRt]
  refine ⟨_, arrival_screened awake takes short screens named entry, ?_⟩
  intro old checked repeated
  have checks := arrivalNoted_checks w e p (accounted s)
  have good : arrivalGood (accounted s) w e p = true ↔ checked ∧ ¬repeated := by
    rw [arrivalGood_iff, watched, ← and_assoc]
  have reaches : reachesAlive e p = true ↔ checked := reachesAlive_iff
  have unpresented (absent : ¬checked ∨ e.alive = none) : presentedAlive e p = none := by
    unfold presentedAlive
    rcases absent with bad | none
    · exact if_neg fun reaching => bad (reaches.1 reaching)
    · rw [none]
      split <;> rfl
  have own := checks.watchRt w
  rw [if_pos rfl, watched, ← arrival_watchRt] at own
  refine ⟨fun ⟨passed, fresh⟩ => ?_, fun bad => ?_, fun absent => ?_, fun a passed alive => ?_, fun v apart => ?_,
    fun live => ?_⟩
  · rw [own, good.2 ⟨passed, fresh⟩]
    exact ⟨rfl, rfl⟩
  · have bad : arrivalGood (accounted s) w e p = false := by
      rw [← Bool.not_eq_true, good]
      exact fun ⟨passed, fresh⟩ => bad.elim (absurd passed) fresh
    rw [own, bad, arrival_signalRt_of_bad bad]
    exact ⟨rfl, rfl, account.signalRt⟩
  · rw [own, unpresented absent]
    rfl
  · have presented : presentedAlive e p = some (a.received p) := by
      simp [presentedAlive, reaches.2 passed, alive]
    rw [own, presented]
    rfl
  · rw [arrival_watchRt, checks.watchRt v, if_neg apart, account.watchRt]
  · intro m timed monitor timing sumHolds screening fits received sequence restarted good offered x
    have running : s.ride.state.isRunning = true := by
      refine follows.resolve_right fun configure => ?_
      simp [State.passThrough, configure] at screens
    have ported : accounted s = { s with
        chassis := ⟨s.chassis.errorCount - 1, .live, some s.tables.settings.silenceTime⟩ } := by
      rw [accounted_stays (.inl live), portAfterFrame, running, live, if_neg (by nofun)]
      rfl
    have fitsIs : fits = reachesAlive e p := (reachesAlive_eq e p).symm
    have receivedIs : received = presentedAlive e p := by
      simp only [received, fitsIs]
      rfl
    have goodIs : good = arrivalGood (accounted s) w e p := by
      rw [arrivalGood_eq, watched, ← receivedIs, ← fitsIs]
    have timingIs : timing = if timed then arrivalSamples w e m else [] := (arrivalSamples_eq w e m timed).symm
    have screeningIs : screening = lengthAndChecksumSamples w e p := (lengthAndChecksumSamples_eq w e p).symm
    have sequenceIs : sequence = sequenceSamples w old.previousAlive (presentedAlive e p) := by
      rw [← receivedIs]
      exact (sequenceSamples_eq w old.previousAlive received).symm
    have monitorIs : monitor = m.afterArrival e := (afterArrival_eq e m).symm
    have offeredIs : offered = e.policy.offers (arrivalGood (accounted s) w e p) := by
      simp only [offered, goodIs]
      cases e.policy <;> rfl
    have xIs : x = takeSamples (sequenceSamples w old.previousAlive (presentedAlive e p))
        (arrivalChecked w e p (accounted s)) := by
      simp only [x, timingIs, screeningIs, sequenceIs, takeSamples_append, arrivalChecked]
      rw [ported, monitorArrival_eq (s := { s with
        chassis := ⟨s.chassis.errorCount - 1, .live, some s.tables.settings.silenceTime⟩ }) entry, monitorIs]
    obtain ⟨rest, watchRt, signalRt⟩ := checks
    rw [watched, ← xIs] at rest
    rw [watched] at watchRt signalRt
    refine ⟨arrivalNoted w e p (accounted s), arrivalEvaluated w e p (accounted s), rest, fun v => ?_, fun i => ?_, ?_, ?_⟩
    · rw [watchRt v, goodIs, receivedIs, account.watchRt]
    · rw [signalRt i, account.signalRt, account.tables, ← receivedIs]
      rfl
    · rw [goodIs, arrivalEvaluated_eq]
    · rw [offeredIs, screenArrival_eq, identifier_of_watchNaming named entry,
        arrivalGood_congr arrivalChecked_watchRt]

end Sys2Proof.Proofs
end

section
/-!
PROOFS. The transmit selector: the item that it takes and the frames that it forms (R149, R150, R159, R161, R163,
R164).
-/

namespace Sys2Proof.Proofs

open Sys2Proof.Machine

/-! ### The best notice and the best slot (R149, R159) -/

theorem bestNotice_spec {s : State} {fs : List (Fin 64)} {f : Fin 64} (best : bestNotice s fs = some f) :
    f ∈ fs ∧ noticeEligible s f = true := by
  induction fs generalizing f with
  | nil => cases best
  | cons h fs ih =>
    simp only [bestNotice] at best
    split at best
    · split at best
      · cases best
        exact ⟨List.mem_cons_self, ‹_›⟩
      · cases best
    · split at best
      next g rest eligible =>
        cases best
        exact ⟨List.mem_cons_self, (Bool.and_eq_true _ _ ▸ eligible).1⟩
      next g rest _ =>
        cases best
        exact ⟨List.mem_cons_of_mem _ (ih rest).1, (ih rest).2⟩

/-- The eligible notice of highest level and then lowest number is the best of an ascending list. -/
theorem bestNotice_of_highest {s : State} {fs : List (Fin 64)} (ascending : fs.Pairwise (· < ·)) {f : Fin 64}
    (member : f ∈ fs) (eligible : noticeEligible s f = true)
    (highest : ∀ g ∈ fs, noticeEligible s g = true →
      levelOf s g < levelOf s f ∨ levelOf s g = levelOf s f ∧ f ≤ g) : bestNotice s fs = some f := by
  induction fs with
  | nil => cases member
  | cons h fs ih =>
    obtain ⟨below, ascending⟩ := List.pairwise_cons.1 ascending
    simp only [bestNotice]
    rcases List.mem_cons.1 member with rfl | later
    · cases rest : bestNotice s fs with
      | none => simp [eligible]
      | some g =>
        obtain ⟨inside, held⟩ := bestNotice_spec rest
        have level : levelOf s g ≤ levelOf s f := by
          rcases highest g (List.mem_cons_of_mem _ inside) held with less | ⟨same, -⟩ <;> omega
        simp [eligible, level]
    · rw [ih ascending later fun g inside => highest g (List.mem_cons_of_mem _ inside)]
      have loses : (noticeEligible s h && decide (levelOf s f ≤ levelOf s h)) = false := by
        by_contra wins
        simp only [Bool.not_eq_false, Bool.and_eq_true, decide_eq_true_eq] at wins
        rcases highest h List.mem_cons_self wins.1 with less | ⟨-, first⟩
        · omega
        · exact absurd (below f later) (not_lt.2 first)
      simp [loses]

/-- The frame of lowest identifier and then lowest slot is the best of an ascending list. -/
theorem bestSlot_of_lowest {s : State} {ws : List (Fin 32)} (ascending : ws.Pairwise (· < ·)) {w : Fin 32} {fr : Frame}
    (member : w ∈ ws) (held : s.tx.slots.at w = some fr)
    (lowest : ∀ v gr, s.tx.slots.at v = some gr → fr.id < gr.id ∨ fr.id = gr.id ∧ w ≤ v) :
    bestSlot s ws = some (w, fr) := by
  induction ws with
  | nil => cases member
  | cons v ws ih =>
    obtain ⟨below, ascending⟩ := List.pairwise_cons.1 ascending
    simp only [bestSlot]
    rcases List.mem_cons.1 member with rfl | later
    · rw [held]
      cases rest : bestSlot s ws with
      | none => rfl
      | some x =>
        have first : fr.id ≤ x.2.id := by
          rcases lowest x.1 x.2 (bestSlot_held rest) with less | ⟨same, -⟩
          · exact BitVec.le_of_lt less
          · rw [same]; exact BitVec.le_refl _
        exact if_pos first
    · rw [ih ascending later]
      cases other : s.tx.slots.at v with
      | none => rfl
      | some gr =>
        refine if_neg fun first => ?_
        rcases lowest v gr other with less | ⟨-, before⟩
        · exact absurd less (BitVec.not_lt.2 first)
        · exact absurd (below w later) (not_lt.2 before)

/-! ### The frames (R150, R161, R163, R193) -/

theorem testBit_packBits (bs : List Bool) (i : Nat) : (packBits bs).testBit i = bs.getD i false := by
  induction bs generalizing i with
  | nil => simp [packBits]
  | cons b bs ih =>
    cases i with
    | zero => cases b <;> simp [packBits, Nat.testBit_zero]
    | succ i =>
      have half : ((if b then 1 else 0) + 2 * packBits bs) / 2 = packBits bs := by
        cases b <;> simp; omega
      rw [packBits, Nat.testBit_succ, half, ih]
      rfl

theorem summaryByte_bit (s : State) (i : Nat) (bit : i < 8) : (summaryByte s).getLsbD i =
    [groupPresent s .engine, groupPresent s .brake, groupPresent s .network, groupPresent s .monitor,
      s.memory.full, s.store.storeLost, s.mgmt.unconfigured, s.ride.state == .configure].getD i false := by
  rw [summaryByte, byteOf, BitVec.getLsbD_ofNat, testBit_packBits]
  simp [bit]

theorem groupPresent_iff {s : State} {g : Group} : groupPresent s g = true ↔
    ∃ f d, s.tables.faults.at f = some d ∧ d.group = g ∧ (s.faultRt.at f).verdict = .failing := by
  simp only [groupPresent, List.any_eq_true, List.mem_finRange, true_and]
  refine exists_congr fun f => ?_
  cases s.tables.faults.at f <;> simp

/-- A response's data, five bytes, those that are not carried 0. -/
theorem padTo_five {data : List Byte} (short : data.length ≤ 5) : padTo 5 data =
    [data.getD 0 0, data.getD 1 0, data.getD 2 0, data.getD 3 0, data.getD 4 0] := by
  match data, short with
  | [], _ => rfl
  | [_], _ => rfl
  | [_, _], _ => rfl
  | [_, _, _], _ => rfl
  | [_, _, _, _], _ => rfl
  | [_, _, _, _, _], _ => rfl

theorem noticeEligible_iff {s : State} {f : Fin 64} : noticeEligible s f = true ↔
    s.tx.notices.at f = true ∧ s.ride.state ≠ .configure ∧ s.tx.noticeLevel ≤ levelOf s f ∧
      ∀ d, s.tables.faults.at f = some d → s.tx.enables.has d.group = true := by
  have enabled : groupEnabled s f = true ↔
      ∀ d, s.tables.faults.at f = some d → s.tx.enables.has d.group = true := by
    unfold groupEnabled
    cases s.tables.faults.at f <;> simp
  simp only [noticeEligible, Bool.and_eq_true, bne_iff_ne, decide_eq_true_eq, enabled]
  tauto

/-- The flags byte of a notice (section 12.3). -/
theorem noticeFrame_eq (s : State) (f : Fin 64) : noticeFrame s f = ⟨noticeId s.strap,
    [byteOf (f.val + 1), summaryByte s,
      byteOf ((if (s.faultRt.at f).failed then 2 else 0) + match s.tables.faults.at f with
        | none => 0
        | some d => 1 + 4 * d.group.code + 16 * d.level),
      byteOf (verdictOf s f).code,
      (match recordOf s f with | none => 0 | some r => byteOf r.status.code),
      (match recordOf s f with | none => 0 | some r => byteOf r.occurrences), 0, 0]⟩ := by
  unfold noticeFrame statusCode
  have flags (d : FaultDef) (x : Nat) : 1 + x + 4 * d.group.code + 16 * d.level =
      x + (1 + 4 * d.group.code + 16 * d.level) := by omega
  cases s.tables.faults.at f <;> cases recordOf s f <;> simp only [flags] <;> rfl

theorem runSelector_takes {s : State} {i : Item} {fr : Frame} (free : transmitterFree s = true)
    (selects : select s = some (i, fr)) : (runSelector s).tx.attempt = some ⟨fr, i, false⟩ := by
  simp only [runSelector, free, if_true, selects, State.setTx_tx]

/-- Settles O34, item by item in the order of R149. -/
theorem selectorTakesHighestItem : Obligations.SelectorTakesHighestItem := by
  intro s
  refine ⟨runSelector_eq_with_attempt s, fun busy => ?_, fun free => ?_⟩
  · simp [runSelector, busy]
  intro eligible own present flags took
  have bits := summaryByte_bit s
  have noticed (f : Fin 64) : noticeEligible s f = true ↔ eligible f := noticeEligible_iff
  have quiet (none : ∀ f, ¬eligible f) : bestNotice s (List.finRange 64) = Option.none :=
    (bestNotice_eq_none_iff s _).2 fun f _ => by simpa using fun is => none f ((noticed f).1 is)
  refine ⟨summaryByte s, ⟨?_, ?_, ?_, ?_, bits 4 (by decide), bits 5 (by decide), bits 6 (by decide), ?_⟩,
    fun r waits short => ?_, fun waits => ?_, fun f none holds highest => ?_, fun none none' => ⟨?_, ?_, ?_⟩⟩
  · rw [bits 0 (by decide)]; exact groupPresent_iff
  · rw [bits 1 (by decide)]; exact groupPresent_iff
  · rw [bits 2 (by decide)]; exact groupPresent_iff
  · rw [bits 3 (by decide)]; exact groupPresent_iff
  · rw [bits 7 (by decide)]; exact beq_iff_eq
  · have is := runSelector_takes (i := .response) (fr := responseFrame s r) free (by simp only [select, waits])
    rw [responseFrame, padTo_five short] at is
    exact is
  · obtain ⟨r, waits⟩ := Option.isSome_iff_exists.1 waits
    exact ⟨_, runSelector_takes free (by simp only [select, waits]; rfl)⟩
  · have best := bestNotice_of_highest (s := s) (List.pairwise_lt_finRange 64) (List.mem_finRange f)
      ((noticed f).2 holds) fun g _ is => highest g ((noticed g).1 is)
    have is := runSelector_takes free (by simp only [select, none, best]; rfl)
    rw [noticeFrame_eq] at is
    exact is
  · intro w fr screens held lowest
    have best := bestSlot_of_lowest (List.pairwise_lt_finRange 32) (List.mem_finRange w) held lowest
    refine runSelector_takes free ?_
    simp [select, none, quiet none', selectForwarded, screens, best]
  · intro fr rest through queue
    refine runSelector_takes free ?_
    simp [select, none, quiet none', selectForwarded, through, queue]
  · intro empty
    have forwarded := (selectForwarded_eq_none_iff s).2 empty
    refine ⟨fun due => ?_, fun idle => ?_⟩
    · exact runSelector_takes free (by simp only [select, none, quiet none', forwarded, due, if_true]; rfl)
    · simp [runSelector, free, select, none, quiet none', forwarded, idle]

/-! ### The end of an attempt (R151) -/

/-- A success carries the item of the attempt that was in progress. -/
theorem attemptSuccess_effect {s : State} {a : Attempt} (awake : s.inReset = false) (attempt : s.tx.attempt = some a) :
    exec .attemptSuccess s = .next (runSelector (completeItem a (endAttempt (s.tx.errorCount - 1) s))) :=
  (eventWhen_effect awake trivial).trans (congrArg _ (by rw [endOfAttempt, attempt]; rfl))

/-- Settles O35, by the item that the attempt carried. -/
theorem attemptSuccessCompletesItem : Obligations.AttemptSuccessCompletesItem := by
  intro s a awake attempt
  refine ⟨_, attemptSuccess_effect awake attempt, ?_⟩
  obtain ⟨frame, item, resend⟩ := a
  cases item with
  | response => simp [completeItem, endAttempt, State.setTx, State.setMgmt]
  | gone => simp [completeItem, endAttempt, State.setTx]
  | queueHead => simp [completeItem, endAttempt, State.setTx]
  | slot v =>
    refine ⟨rfl, rfl, rfl, nofun, fun _ => ⟨rfl, rfl⟩, fun f => ?_, fun w => ?_, rfl, ?_, rfl, rfl⟩
    · simp [completeItem, endAttempt, State.setTx]
    · simp [completeItem, endAttempt, State.setTx, Table.at_put]
    · simp [completeItem, endAttempt, State.setTx]
  | notice g =>
    cases resend with
    | true => simp [completeItem, endAttempt, State.setTx]
    | false =>
      refine ⟨rfl, rfl, rfl, nofun, fun _ => ⟨rfl, rfl⟩, fun f => ?_, fun w => rfl, rfl, ?_, rfl, rfl⟩
      · by_cases same : g = f <;> simp [completeItem, endAttempt, State.setTx, Table.at_put, same]
      · simp [completeItem, endAttempt, State.setTx]
  | beacon => cases resend <;> simp [completeItem, endAttempt, State.setTx]

end Sys2Proof.Proofs
end

section
/-!
PROOFS. The start of a ride, and the completions of a load, a commit and an abandon (R71, R72, R181, R182, R186 to
R188).
-/

namespace Sys2Proof.Proofs

open Sys2Proof.Machine

/-! ### What the samples of a ride start keep -/

/-- What the steps before the samples of a ride start set, and the samples keep. -/
structure StartKept (u t : State) : Prop where
  state : t.ride.state = .keyOn
  lamps : ∀ l, (t.lamps.get l).proveOut = true ∧ (t.lamps.get l).displayed = .steady
  proveTimer : t.lamps.proveTimer = u.lamps.proveTimer
  dirty : u.memory.dirty = true → t.memory.dirty = true
  notices : ∀ f, u.tx.notices.at f = true → t.tx.notices.at f = true

namespace StartKept

variable {u t : State}

theorem notice (kept : StartKept u t) (f : Fin 64) : StartKept u (setNotice f t) :=
  { kept with notices := fun g pending => by rw [setNotice_at, kept.notices g pending, Bool.true_or] }

theorem records (kept : StartKept u t) (rs : List FaultRecord) : StartKept u (changeRecords rs t) :=
  { kept with dirty := fun _ => rfl }

/-- A lamp in its prove-out stays lit through every change of its request (R142, R144). -/
theorem updateLamps (kept : StartKept u t) : StartKept u (Machine.updateLamps t) := by
  have lamp (p : Pattern) (x : LampState) (lit : x.proveOut = true ∧ x.displayed = .steady) :
      (updateLamp t p x).proveOut = true ∧ (updateLamp t p x).displayed = .steady := by
    obtain ⟨proveOut, same, moved⟩ := updateLamp_spec t p x
    refine ⟨proveOut.trans lit.1, ?_⟩
    by_cases request : (updateLamp t p x).request = x.request
    · rw [same request]; exact lit.2
    · obtain ⟨-, -, -, -, shown⟩ := moved request
      rw [kept.state] at shown
      simpa [RideState.isRunning, lit.1] using (shown (by simp [lit.1])).1
  refine { kept with lamps := fun l => ?_ }
  cases l with
  | engine => exact lamp _ _ (kept.lamps .engine)
  | abs => exact lamp _ _ (kept.lamps .abs)

theorem memoryEnterFailing (kept : StartKept u t) (f : Fin 64) (d : FaultDef) :
    StartKept u (Machine.memoryEnterFailing f d t) := by
  unfold Machine.memoryEnterFailing
  split
  · exact (kept.records _).notice f
  · unfold createRecord
    split
    · exact (kept.records _).notice f
    · split
      · exact { kept with }
      · exact ((kept.records _).notice _).notice f

theorem takeSample (kept : StartKept u t) (src : Source) (x : Finding) : StartKept u (Machine.takeSample src x t) := by
  rcases takeSample_cases src x t with same | ⟨f, d, -, -, counted⟩
  · rw [same]; exact kept
  · have moved (rt : FaultRuntime) : StartKept u (setFaultRt f rt t) := { kept with }
    have outcome := countSample_counted f d x t
    rw [counted]
    generalize countSample f d x t = v at outcome ⊢
    cases outcome with
    | entry => exact (((moved _).memoryEnterFailing f d).notice f).updateLamps
    | heals => exact ((moved _).notice f).updateLamps
    | moves => exact moved _

theorem takeSamples (kept : StartKept u t) (xs : List (Source × Finding)) : StartKept u (Machine.takeSamples xs t) :=
  foldl_keeps (StartKept u) _ (fun _ x kept => kept.takeSample x.1 x.2) xs t kept

end StartKept

/-- A pass sample on a counter that is not above 0 records nothing (R101, R102). -/
theorem takeSample_pass_memory {s : State} (src : Source)
    (confirms : ∀ f d, s.tables.faults.at f = some d → 1 ≤ d.confirm)
    (low : ∀ f, (s.faultRt.at f).counter ≤ 0) : (takeSample src .pass s).memory = s.memory := by
  rcases takeSample_cases src .pass s with same | ⟨f, d, -, defined, counted⟩
  · rw [same]
  · have outcome := countSample_counted f d .pass s
    rw [counted]
    generalize countSample f d .pass s = v at outcome ⊢
    cases outcome with
    | entry failing before =>
      have confirm := confirms f d defined
      have counter := low f
      have below : ¬(d.confirm : Int) ≤ passStep d (s.faultRt.at f).counter := by
        unfold passStep
        split_ifs <;> omega
      change nextVerdict d (passStep d (s.faultRt.at f).counter) (s.faultRt.at f).verdict = .failing at failing
      rw [nextVerdict, if_neg below] at failing
      split_ifs at failing
      exact absurd failing before
    | heals => rfl
    | moves => rfl

/-! ### The start of a ride (R72) -/

section

variable {b t : State}

/-- What a ride start leaves, its samples taken. -/
structure Started (b t : State) : Prop where
  state : t.ride.state = .keyOn
  lamps : ∀ l, (t.lamps.get l).proveOut = true ∧ (t.lamps.get l).displayed = .steady
  dirty : b.memory.dirty = true → t.memory.dirty = true
  tables : t.tables = b.tables
  mgmt : t.mgmt = b.mgmt
  store : t.store = b.store
  response : t.tx.response = b.tx.response
  watchRt : ∀ w, t.watchRt.at w = ⟨.never, none, none⟩
  signalRt : ∀ i, t.signalRt.at i = ⟨none, none, 0⟩
  silence : t.chassis.silence = some b.tables.settings.silenceTime
  proveTimer : t.lamps.proveTimer = some b.tables.settings.proveOutTime
  clock : t.ride.clockTicks = 0 ∧ t.ride.runTime = 0 ∧ t.ride.speedReached = false
  ignition : t.ride.classes.ignition.active = decide (b.tables.settings.ignitionBlanking ≠ 0)
  rideNumber : t.ride.rideNumber = b.ride.rideNumber
  hold : t.ride.hold = b.ride.hold
  notices : ∀ r ∈ b.memory.records, t.tx.notices.at r.fault = true

theorem started_of_rideStarted (started : RideStarted b t) : Started b t := by
  obtain ⟨u, begun, rfl⟩ := started
  have state : u.ride.state = .keyOn := by rw [begun.ride]
  have lit (l : Lamp) : (u.lamps.get l).proveOut = true ∧ (u.lamps.get l).displayed = .steady :=
    ⟨(begun.lamps l).1, (begun.lamps l).2.1⟩
  have first : StartKept u u := ⟨state, lit, rfl, id, fun _ => id⟩
  have kept := first.takeSamples ((.storeLost, if b.store.storeLost then .fail else .pass)
      :: ((if b.chassis.condition = .down then [(.portDown .chassis, .fail)] else [])
        ++ (if b.tx.offline = none then [] else [(.portDown .cluster, .fail)])))
  have frame := takeSamples_frame ((.storeLost, if b.store.storeLost then .fail else .pass)
      :: ((if b.chassis.condition = .down then [(.portDown .chassis, .fail)] else [])
        ++ (if b.tx.offline = none then [] else [(.portDown .cluster, .fail)]))) u
  generalize Machine.takeSamples _ u = t at *
  have tables : u.tables = b.tables := by rw [begun.frame]
  have mgmt : u.mgmt = b.mgmt := by rw [begun.frame]
  have store : u.store = b.store := by rw [begun.frame]
  have response : u.tx.response = b.tx.response := by rw [begun.tx]
  refine ⟨kept.state, kept.lamps, fun dirty => kept.dirty (by rw [begun.memory]; exact dirty),
    frame.tables.trans tables, frame.mgmt.trans mgmt, frame.store.trans store, frame.response.trans response,
    by rw [frame.watchRt]; exact begun.watchRt, by rw [frame.signalRt]; exact begun.signalRt,
    by rw [frame.chassis, begun.chassis], kept.proveTimer.trans begun.proveOut,
    by rw [frame.ride, begun.ride]; exact ⟨rfl, rfl, rfl⟩, ?_, by rw [frame.ride, begun.ride],
    by rw [frame.ride, begun.ride], fun r held => kept.notices _ ?_⟩
  · rw [frame.ride, begun.ride]
    by_cases off : b.tables.settings.ignitionBlanking = 0 <;> simp [off]
  · rw [begun.notices, Bool.or_eq_true, List.any_eq_true]
    exact .inr ⟨r, held, beq_self_eq_true _⟩

/-- Without a lost store and with both ports up, a ride start keeps the records (R72 steps 5 and 6). -/
theorem rideStarted_records (started : RideStarted b t) (fits : TablesFit b.tables) (found : b.store.storeLost = false)
    (live : b.chassis.condition = .live) (online : b.tx.offline = none) : t.memory.records = b.memory.records := by
  obtain ⟨u, begun, rfl⟩ := started
  have tables : u.tables = b.tables := by rw [begun.frame]
  have memory : (takeSample .storeLost .pass u).memory = u.memory := by
    refine takeSample_pass_memory _ (fun f d defined => ?_) fun f => ?_
    · have legal := fits.faults f d (by rw [← tables]; exact defined)
      simp only [FaultDef.legal, Bool.and_eq_true, decide_eq_true_eq] at legal
      omega
    · rw [begun.faultRt]
  rw [found, live, online]
  change (takeSample .storeLost .pass u).memory.records = _
  rw [memory, begun.memory]

end

/-! ### The store's completions (R181, R182, R186) -/

theorem tablesFit_loaded {s t : State} (loaded : TablesLoaded s t) : TablesFit t.tables := by
  by_cases lost : tablesLost s
  · rw [(loaded.lost lost).1]; exact TablesFit.empty
  · rw [(loaded.valid lost).1]; exact TablesFit.ofContent _

/-- The state of a commit whose TABLES write has ended, answered (R181). -/
def committed (removed : Nat) (s : State) : State :=
  { s with
    store := { s.store with tables := regionEndWrite tablesSize s.store.tables, op := none },
    mgmt := { s.mgmt with inbox := .answered, unconfigured := false },
    tx := { s.tx with response := some ⟨0x41, .ok, [byteOf removed]⟩ } }

theorem tablesWriteCompletion_effect {s : State} {n removed : Nat} (awake : s.inReset = false)
    (op : s.store.op = some ⟨.tablesWrite, n⟩) (lasted : 1 ≤ n) (working : s.mgmt.inbox = .working (.commit removed)) :
    exec .tablesWriteCompletion s = .next (runSelector (startOrClose (committed removed s))) := by
  have effect : exec .tablesWriteCompletion s = .next (endOfWork (finishTablesWrite s)) :=
    eventWhen_effect (f := fun s => endOfWork (finishTablesWrite s)) awake (mayComplete_of_op op lasted)
  have answered : respond 0x41 .ok (workData (finishTablesWrite s).mgmt.inbox) (finishTablesWrite s) =
      committed removed s := by
    rw [finishTablesWrite_eq]
    simp only [working, workData, respond, State.setTx, State.setMgmt, committed]
  rw [effect, endOfWork, answered]

/-- Settles O32: the region's end of write, then the ride's start or its closure. -/
theorem commitCompletes : Obligations.CommitCompletes := by
  refine ⟨fun s n removed awake op lasted canonical working high => ?_,
    fun s n removed awake op lasted working => ⟨_, tablesWriteCompletion_effect awake op lasted working, ?_⟩⟩
  · have answered := tablesWriteCompletion_effect awake op lasted working
    have valid := regionValid_ended (regions_wf_of_areasCanonical canonical).1 (by decide)
    have content := regionContent_ended (regions_wf_of_areasCanonical canonical).1
    have started := started_of_rideStarted ((startOrClose_spec (committed removed s)).1 high)
    generalize startOrClose _ = t at answered started
    obtain ⟨attempt, selected⟩ := runSelector_selected t
    refine ⟨_, answered.trans (congrArg _ selected), ?_⟩
    obtain ⟨clock, -, -⟩ := started.clock
    simp only [started.store, started.mgmt]
    exact ⟨valid, content, rfl, rfl, rfl, started.response, rfl, started.state, started.tables, clock,
      started.rideNumber, fun l => (started.lamps l).2⟩
  · exact ⟨(startOrClose_spec (committed removed s)).1,
      fun low configure => (startOrClose_spec (committed removed s)).2 low
        (show s.ride.state.isRunning = false by rw [configure]; rfl)⟩

/-! ### Loads of the tables (R186, R187, R190) -/

theorem loadTables_eq (s : State) : loadTables s = { s with
    tables := (loadTables s).tables, mgmt := (loadTables s).mgmt, watchRt := (loadTables s).watchRt,
    monitors := (loadTables s).monitors, signalRt := (loadTables s).signalRt,
    voteTimers := (loadTables s).voteTimers, faultRt := (loadTables s).faultRt } := by
  unfold loadTables
  split
  · rw [installTables_eq]
  · rw [installTables_eq]

/-- The tables of a completed load or reload, the store's operation at its end. -/
def reloaded (s : State) : State := loadTables (endOp s)

theorem reloaded_loaded (s : State) : TablesLoaded s (reloaded s) := by
  obtain ⟨lost, valid, mgmt, watchRt, monitors, signalRt, voteTimers, faultRt⟩ := loadTables_loaded (endOp s)
  exact ⟨lost, valid, mgmt, watchRt, monitors, signalRt, voteTimers, faultRt⟩

theorem reloaded_eq (s : State) : reloaded s = { s with
    tables := (reloaded s).tables, mgmt := (reloaded s).mgmt, watchRt := (reloaded s).watchRt,
    monitors := (reloaded s).monitors, signalRt := (reloaded s).signalRt, voteTimers := (reloaded s).voteTimers,
    faultRt := (reloaded s).faultRt, store := { s.store with op := none } } := loadTables_eq (endOp s)

/-- The state of an abandon whose reload has ended, answered (R182). -/
def abandoned (s : State) : State :=
  { reloaded s with
    mgmt := { (reloaded s).mgmt with inbox := .answered },
    tx := { (reloaded s).tx with response := some ⟨0x41, .ok, []⟩ } }

theorem reloadCompletion_effect {s : State} {n : Nat} (awake : s.inReset = false)
    (op : s.store.op = some ⟨.reload, n⟩) (lasted : 1 ≤ n) (working : s.mgmt.inbox = .working .abandon) :
    exec .reloadCompletion s = .next (runSelector (startOrClose (abandoned s))) := by
  have effect : exec .reloadCompletion s = .next (endOfWork (reloaded s)) :=
    eventWhen_effect (f := fun s => endOfWork (loadTables (endOp s))) awake (mayComplete_of_op op lasted)
  have inbox : (reloaded s).mgmt.inbox = .working .abandon := by rw [(reloaded_loaded s).mgmt]; exact working
  rw [effect, endOfWork, inbox]
  rfl

/-- Settles O33: the tables of the region, then the ride's start or its closure. -/
theorem abandonCompletes : Obligations.AbandonCompletes := by
  refine ⟨fun s n awake op lasted working high => ?_,
    fun s n awake op lasted working => ⟨reloaded s, _, reloadCompletion_effect awake op lasted working,
      reloaded_loaded s, reloaded_eq s, ?_⟩⟩
  · have answered := reloadCompletion_effect awake op lasted working
    have ign : (abandoned s).ride.ign = .high := by
      rw [abandoned, reloaded_eq]; exact high
    have started := started_of_rideStarted ((startOrClose_spec (abandoned s)).1 ign)
    generalize startOrClose (abandoned s) = t at answered started
    obtain ⟨attempt, selected⟩ := runSelector_selected t
    refine ⟨_, answered.trans (congrArg _ selected), ?_⟩
    have loaded := reloaded_loaded s
    have store : (abandoned s).store = { s.store with op := none } := by rw [abandoned, reloaded_eq]
    have number : (abandoned s).ride.rideNumber = s.ride.rideNumber := by rw [abandoned, reloaded_eq]
    simp only [started.store, started.mgmt, started.tables, store]
    exact ⟨loaded.lost, loaded.valid, started.response, rfl, started.state, trivial, trivial, trivial, trivial,
      started.rideNumber.trans number⟩
  · refine ⟨fun high => (startOrClose_spec (abandoned s)).1 ?_, fun low configure => (startOrClose_spec (abandoned s)).2 ?_ ?_⟩
    · rw [abandoned, reloaded_eq]; exact high
    · rw [abandoned, reloaded_eq]; exact low
    · rw [abandoned, reloaded_eq]
      exact (congrArg RideState.isRunning configure).trans rfl

/-! ### The load of SETTLING (R186 to R188) -/

/-- The state of a completed load, before the ride starts or closes. -/
def loadedState (s : State) : State := loadMemory (reloaded s)

theorem loadedState_eq (s : State) : loadedState s = { reloaded s with
    memory := (loadedState s).memory, ride := { s.ride with rideNumber := (loadedState s).ride.rideNumber },
    store := { s.store with op := none, storeLost := (loadedState s).store.storeLost } } := by
  have rest := reloaded_eq s
  unfold loadedState
  rw [loadMemory_eq]
  split
  · rw [rest]
  · rw [rest]

theorem loadedState_of_valid {s : State} (valid : regionValid memorySize s.store.memory = true) :
    (loadedState s).memory = ⟨(memoryOfContent (regionContent memorySize s.store.memory)).2, false, false⟩ ∧
      (loadedState s).ride.rideNumber = (memoryOfContent (regionContent memorySize s.store.memory)).1 ∧
      (loadedState s).store.storeLost = false := by
  have same : (reloaded s).store.memory = s.store.memory := by rw [reloaded_eq]
  rw [loadedState, loadMemory_eq, same, if_pos valid]
  simp only [and_self]

theorem loadedState_of_lost {s : State} (lost : regionValid memorySize s.store.memory = false) :
    (loadedState s).memory = ⟨[], false, true⟩ ∧ (loadedState s).ride.rideNumber = 0 ∧
      (loadedState s).store.storeLost = true := by
  have same : (reloaded s).store.memory = s.store.memory := by rw [reloaded_eq]
  rw [loadedState, loadMemory_eq, same, if_neg (by rw [lost]; nofun)]
  exact ⟨rfl, rfl, rfl⟩

theorem loadedState_loaded (s : State) : TablesLoaded s (loadedState s) := by
  obtain ⟨lost, valid, mgmt, watchRt, monitors, signalRt, voteTimers, faultRt⟩ := reloaded_loaded s
  rw [loadedState_eq]
  exact ⟨lost, valid, mgmt, watchRt, monitors, signalRt, voteTimers, faultRt⟩

theorem loadCompletion_effect {s : State} {n : Nat} (awake : s.inReset = false) (op : s.store.op = some ⟨.load, n⟩)
    (lasted : 1 ≤ n) : exec .loadCompletion s = .next (runSelector (startOrClose (loadedState s))) :=
  eventWhen_effect awake (mayComplete_of_op op lasted)

/-- Settles O30: the load of both regions, then the ride's start or its closure. -/
theorem loadStartsRide : Obligations.LoadStartsRide := by
  have stands (s : State) : loadedState s = { s with
      tables := (loadedState s).tables, mgmt := (loadedState s).mgmt, watchRt := (loadedState s).watchRt,
      monitors := (loadedState s).monitors, signalRt := (loadedState s).signalRt,
      voteTimers := (loadedState s).voteTimers, faultRt := (loadedState s).faultRt, memory := (loadedState s).memory,
      ride := { s.ride with rideNumber := (loadedState s).ride.rideNumber },
      store := { s.store with op := none, storeLost := (loadedState s).store.storeLost } } := by
    have rest := reloaded_eq s
    rw [loadedState_eq, rest]
  have ign (s : State) : (loadedState s).ride.ign = s.ride.ign := by rw [stands]
  refine ⟨fun s n awake op lasted high => ?_,
    fun s n awake op lasted => ⟨loadedState s, _, loadCompletion_effect awake op lasted, loadedState_loaded s, stands s,
      loadedState_of_valid, loadedState_of_lost, fun high => ?_, fun low settling => ?_⟩⟩
  · have answered := loadCompletion_effect awake op lasted
    have rideStarted := (startOrClose_spec (loadedState s)).1 ((ign s).trans high)
    have started := started_of_rideStarted rideStarted
    have records := rideStarted_records rideStarted (tablesFit_loaded (loadedState_loaded s))
    generalize startOrClose (loadedState s) = t at answered started records
    obtain ⟨attempt, selected⟩ := runSelector_selected t
    refine ⟨_, answered.trans (congrArg _ selected), ?_⟩
    have loaded := loadedState_loaded s
    have store : (loadedState s).store = { s.store with op := none, storeLost := (loadedState s).store.storeLost } := by
      rw [stands s]
    have hold : (loadedState s).ride.hold = s.ride.hold := by rw [stands s]
    have chassis : (loadedState s).chassis = s.chassis := by rw [stands s]
    have offline : (loadedState s).tx.offline = s.tx.offline := by rw [stands s]
    obtain ⟨clock, run, reached⟩ := started.clock
    simp only [started.store, started.mgmt, started.tables]
    refine ⟨loaded.lost, loaded.valid, ?_, fun valid => ⟨?_, fun r held => ?_, fun live online => ?_⟩,
      fun lost => ⟨?_, ?_⟩, started.state, clock, run, reached, started.ignition, started.silence, started.proveTimer,
      started.lamps, started.watchRt, started.signalRt, ?_, ?_, ?_, started.hold.trans hold⟩
    · cases valid : regionValid memorySize s.store.memory with
      | true => exact (loadedState_of_valid valid).2.2
      | false => exact (loadedState_of_lost valid).2.2
    · exact started.rideNumber.trans (loadedState_of_valid valid).2.1
    · refine started.notices r ?_
      rw [(loadedState_of_valid valid).1]
      generalize memoryOfContent (regionContent memorySize s.store.memory) = content at held ⊢
      exact held
    · refine (records (loadedState_of_valid valid).2.2 (by rw [chassis]; exact live)
        (by rw [offline]; exact online)).trans ?_
      rw [(loadedState_of_valid valid).1]
    · exact started.rideNumber.trans (loadedState_of_lost lost).2.1
    · exact started.dirty (by rw [(loadedState_of_lost lost).1])
    · rw [store]
    · rw [store]
    · rw [store]
  · exact (startOrClose_spec (loadedState s)).1 ((ign s).trans high)
  · refine (startOrClose_spec (loadedState s)).2 ((ign s).trans low) ?_
    have state : (loadedState s).ride.state = s.ride.state := by rw [stands s]
    rw [state, settling]
    rfl

end Sys2Proof.Proofs
end
